-- ==== Sys2Proof/Word.lean ====
section
/-! DEFINITION. The two word types of the core: bytes (R7 `XLEN8`) and 16-bit words (R7 `XLEN16`, `ALEN`). -/

namespace Sys2Proof

/-- A byte: an 8-bit register, a memory byte, an 8-bit immediate (R7). -/
abbrev Byte := BitVec 8

/-- A 16-bit word: SP, PC, an address, a 16-bit immediate (R7). -/
abbrev Word := BitVec 16

end Sys2Proof
end

