-- ==== Sys2Proof/Config.lean ====
section
/-! DEFINITION. The parameters of the hardware that the spec fixes (R7), and the default of the one it leaves open.
There is no free value: the spec leaves no result undefined (93_implementation_defined.md, Part 1). -/

namespace Sys2Proof.Config

/-- R7 `ALEN`: the number of addresses. -/
def addressSpace : Nat := 65536

/-- R7 `IMAGE_BASE`: where byte 0 of a loaded image lands. -/
def imageBase : Word := 0x0100

/-- R7 `IMAGE_MAX`: the largest image, 65536 - 0x0100 bytes. -/
def imageMax : Nat := 65280

/-- R191: what a byte of memory that nothing has written reads as. -/
def powerOnByte : Byte := 0

/-- R7 `CYCW`: the least width the cycle counter may have. -/
def cycwMin : Nat := 32

/-- R7 `CYCW`: the default width of the cycle counter. The width itself is OPEN; State holds it (log entry 2). -/
def cycwDefault : Nat := 64

end Sys2Proof.Config
end

