-- ==== Sys2Proof/Syntax.lean ====
section
/-! DEFINITION. The syntax: register names and operand names, the 187 instructions of spec/opcode_table.json, one
constructor each, and their general forms (the `form` column of the table). -/

namespace Sys2Proof

/-- The operand selectors of R22: the eight 8-bit registers. -/
inductive Reg
  | a | f | b | c | d | e | h | l
deriving DecidableEq, Repr

/-- The registers that the 3-bit field r8 can name (R52). F is not one of them (R13). -/
inductive R8
  | b | c | d | e | h | l | a
deriving DecidableEq, Repr

/-- The register pairs, views of two 8-bit registers (R12). -/
inductive Pair
  | bc | de | hl | af
deriving DecidableEq, Repr

/-- The pairs that `LD rr,d16`, `PUSH rr` and `POP rr` name (R100, R103, R105). -/
inductive RR
  | bc | de | hl
deriving DecidableEq, Repr

/-- The eight accumulator operations, in the order of the 3-bit field alu (R54). -/
inductive AluOp
  | add | adc | sub | sbc | and | xor | or | cp
deriving DecidableEq, Repr

/-- The general forms of the instructions, with their operands: the row headings of R61. -/
inductive Form
  /-- `NOP` (R75). -/
  | nop
  /-- `LD r,r'` (R80). -/
  | ldRegReg (dst src : R8)
  /-- `LD r,(HL)` (R81). -/
  | ldRegHL (dst : R8)
  /-- `LD (HL),r` (R82). -/
  | ldHLReg (src : R8)
  /-- `LD r,d8` (R83). -/
  | ldRegImm (dst : R8) (d8 : Byte)
  /-- `LD (HL),d8` (R84). -/
  | ldHLImm (d8 : Byte)
  /-- `LD A,(BC)` (R85). -/
  | ldABC
  /-- `LD A,(DE)` (R86). -/
  | ldADE
  /-- `LD (BC),A` (R87). -/
  | ldBCA
  /-- `LD (DE),A` (R88). -/
  | ldDEA
  /-- `LDH A,(a8)` (R89). -/
  | ldhALoad (a8 : Byte)
  /-- `LDH (a8),A` (R90). -/
  | ldhAStore (a8 : Byte)
  /-- `LD A,(a16)` (R91). -/
  | ldAAbs (a16 : Word)
  /-- `LD (a16),A` (R92). -/
  | ldAbsA (a16 : Word)
  /-- `LD rr,d16` (R100). -/
  | ldPairImm (rr : RR) (d16 : Word)
  /-- `LD SP,d16` (R101). -/
  | ldSPImm (d16 : Word)
  /-- `LD (a16),SP` (R102). -/
  | ldAbsSP (a16 : Word)
  /-- `PUSH rr` (R103). -/
  | push (rr : RR)
  /-- `PUSH AF` (R104). -/
  | pushAF
  /-- `POP rr` (R105). -/
  | pop (rr : RR)
  /-- `POP AF` (R106). -/
  | popAF
  /-- `LD SP,HL` (R107). -/
  | ldSPHL
  /-- `LD HL,SP+s8` (R108). -/
  | ldHLSP (s8 : Byte)
  /-- `INC r` (R125). -/
  | incReg (r : R8)
  /-- `INC (HL)` (R126). -/
  | incHL
  /-- `DEC r` (R127). -/
  | decReg (r : R8)
  /-- `DEC (HL)` (R128). -/
  | decHL
  /-- `DAA` (R129). -/
  | daa
  /-- `SCF` (R130). -/
  | scf
  /-- `CPL` (R131). -/
  | cpl
  /-- `CCF` (R132). -/
  | ccf
  /-- `op A,r` (R120). -/
  | aluReg (op : AluOp) (r : R8)
  /-- `op A,(HL)` (R120). -/
  | aluHL (op : AluOp)
  /-- `op A,d8` (R120). -/
  | aluImm (op : AluOp) (d8 : Byte)
deriving DecidableEq, Repr

/-- The instructions: one constructor per row of spec/opcode_table.json (R55). Immediates are the values assembled
from the bytes after the opcode (R56). -/
inductive Instr
  /-- `NOP` (opcode 0x00, R75). -/
  | nop
  /-- `LD BC,d16` (opcode 0x01, R100). -/
  | ld_bc_d16 (d16 : Word)
  /-- `LD (BC),A` (opcode 0x02, R87). -/
  | ld_atBC_a
  /-- `INC B` (opcode 0x04, R125). -/
  | inc_b
  /-- `DEC B` (opcode 0x05, R127). -/
  | dec_b
  /-- `LD B,d8` (opcode 0x06, R83). -/
  | ld_b_d8 (d8 : Byte)
  /-- `LD (a16),SP` (opcode 0x08, R102). -/
  | ld_atA16_sp (a16 : Word)
  /-- `LD A,(BC)` (opcode 0x0A, R85). -/
  | ld_a_atBC
  /-- `INC C` (opcode 0x0C, R125). -/
  | inc_c
  /-- `DEC C` (opcode 0x0D, R127). -/
  | dec_c
  /-- `LD C,d8` (opcode 0x0E, R83). -/
  | ld_c_d8 (d8 : Byte)
  /-- `LD DE,d16` (opcode 0x11, R100). -/
  | ld_de_d16 (d16 : Word)
  /-- `LD (DE),A` (opcode 0x12, R88). -/
  | ld_atDE_a
  /-- `INC D` (opcode 0x14, R125). -/
  | inc_d
  /-- `DEC D` (opcode 0x15, R127). -/
  | dec_d
  /-- `LD D,d8` (opcode 0x16, R83). -/
  | ld_d_d8 (d8 : Byte)
  /-- `LD A,(DE)` (opcode 0x1A, R86). -/
  | ld_a_atDE
  /-- `INC E` (opcode 0x1C, R125). -/
  | inc_e
  /-- `DEC E` (opcode 0x1D, R127). -/
  | dec_e
  /-- `LD E,d8` (opcode 0x1E, R83). -/
  | ld_e_d8 (d8 : Byte)
  /-- `LD HL,d16` (opcode 0x21, R100). -/
  | ld_hl_d16 (d16 : Word)
  /-- `INC H` (opcode 0x24, R125). -/
  | inc_h
  /-- `DEC H` (opcode 0x25, R127). -/
  | dec_h
  /-- `LD H,d8` (opcode 0x26, R83). -/
  | ld_h_d8 (d8 : Byte)
  /-- `DAA` (opcode 0x27, R129). -/
  | daa
  /-- `INC L` (opcode 0x2C, R125). -/
  | inc_l
  /-- `DEC L` (opcode 0x2D, R127). -/
  | dec_l
  /-- `LD L,d8` (opcode 0x2E, R83). -/
  | ld_l_d8 (d8 : Byte)
  /-- `CPL` (opcode 0x2F, R131). -/
  | cpl
  /-- `LD SP,d16` (opcode 0x31, R101). -/
  | ld_sp_d16 (d16 : Word)
  /-- `INC (HL)` (opcode 0x34, R126). -/
  | inc_atHL
  /-- `DEC (HL)` (opcode 0x35, R128). -/
  | dec_atHL
  /-- `LD (HL),d8` (opcode 0x36, R84). -/
  | ld_atHL_d8 (d8 : Byte)
  /-- `SCF` (opcode 0x37, R130). -/
  | scf
  /-- `INC A` (opcode 0x3C, R125). -/
  | inc_a
  /-- `DEC A` (opcode 0x3D, R127). -/
  | dec_a
  /-- `LD A,d8` (opcode 0x3E, R83). -/
  | ld_a_d8 (d8 : Byte)
  /-- `CCF` (opcode 0x3F, R132). -/
  | ccf
  /-- `LD B,B` (opcode 0x40, R80). -/
  | ld_b_b
  /-- `LD B,C` (opcode 0x41, R80). -/
  | ld_b_c
  /-- `LD B,D` (opcode 0x42, R80). -/
  | ld_b_d
  /-- `LD B,E` (opcode 0x43, R80). -/
  | ld_b_e
  /-- `LD B,H` (opcode 0x44, R80). -/
  | ld_b_h
  /-- `LD B,L` (opcode 0x45, R80). -/
  | ld_b_l
  /-- `LD B,(HL)` (opcode 0x46, R81). -/
  | ld_b_atHL
  /-- `LD B,A` (opcode 0x47, R80). -/
  | ld_b_a
  /-- `LD C,B` (opcode 0x48, R80). -/
  | ld_c_b
  /-- `LD C,C` (opcode 0x49, R80). -/
  | ld_c_c
  /-- `LD C,D` (opcode 0x4A, R80). -/
  | ld_c_d
  /-- `LD C,E` (opcode 0x4B, R80). -/
  | ld_c_e
  /-- `LD C,H` (opcode 0x4C, R80). -/
  | ld_c_h
  /-- `LD C,L` (opcode 0x4D, R80). -/
  | ld_c_l
  /-- `LD C,(HL)` (opcode 0x4E, R81). -/
  | ld_c_atHL
  /-- `LD C,A` (opcode 0x4F, R80). -/
  | ld_c_a
  /-- `LD D,B` (opcode 0x50, R80). -/
  | ld_d_b
  /-- `LD D,C` (opcode 0x51, R80). -/
  | ld_d_c
  /-- `LD D,D` (opcode 0x52, R80). -/
  | ld_d_d
  /-- `LD D,E` (opcode 0x53, R80). -/
  | ld_d_e
  /-- `LD D,H` (opcode 0x54, R80). -/
  | ld_d_h
  /-- `LD D,L` (opcode 0x55, R80). -/
  | ld_d_l
  /-- `LD D,(HL)` (opcode 0x56, R81). -/
  | ld_d_atHL
  /-- `LD D,A` (opcode 0x57, R80). -/
  | ld_d_a
  /-- `LD E,B` (opcode 0x58, R80). -/
  | ld_e_b
  /-- `LD E,C` (opcode 0x59, R80). -/
  | ld_e_c
  /-- `LD E,D` (opcode 0x5A, R80). -/
  | ld_e_d
  /-- `LD E,E` (opcode 0x5B, R80). -/
  | ld_e_e
  /-- `LD E,H` (opcode 0x5C, R80). -/
  | ld_e_h
  /-- `LD E,L` (opcode 0x5D, R80). -/
  | ld_e_l
  /-- `LD E,(HL)` (opcode 0x5E, R81). -/
  | ld_e_atHL
  /-- `LD E,A` (opcode 0x5F, R80). -/
  | ld_e_a
  /-- `LD H,B` (opcode 0x60, R80). -/
  | ld_h_b
  /-- `LD H,C` (opcode 0x61, R80). -/
  | ld_h_c
  /-- `LD H,D` (opcode 0x62, R80). -/
  | ld_h_d
  /-- `LD H,E` (opcode 0x63, R80). -/
  | ld_h_e
  /-- `LD H,H` (opcode 0x64, R80). -/
  | ld_h_h
  /-- `LD H,L` (opcode 0x65, R80). -/
  | ld_h_l
  /-- `LD H,(HL)` (opcode 0x66, R81). -/
  | ld_h_atHL
  /-- `LD H,A` (opcode 0x67, R80). -/
  | ld_h_a
  /-- `LD L,B` (opcode 0x68, R80). -/
  | ld_l_b
  /-- `LD L,C` (opcode 0x69, R80). -/
  | ld_l_c
  /-- `LD L,D` (opcode 0x6A, R80). -/
  | ld_l_d
  /-- `LD L,E` (opcode 0x6B, R80). -/
  | ld_l_e
  /-- `LD L,H` (opcode 0x6C, R80). -/
  | ld_l_h
  /-- `LD L,L` (opcode 0x6D, R80). -/
  | ld_l_l
  /-- `LD L,(HL)` (opcode 0x6E, R81). -/
  | ld_l_atHL
  /-- `LD L,A` (opcode 0x6F, R80). -/
  | ld_l_a
  /-- `LD (HL),B` (opcode 0x70, R82). -/
  | ld_atHL_b
  /-- `LD (HL),C` (opcode 0x71, R82). -/
  | ld_atHL_c
  /-- `LD (HL),D` (opcode 0x72, R82). -/
  | ld_atHL_d
  /-- `LD (HL),E` (opcode 0x73, R82). -/
  | ld_atHL_e
  /-- `LD (HL),H` (opcode 0x74, R82). -/
  | ld_atHL_h
  /-- `LD (HL),L` (opcode 0x75, R82). -/
  | ld_atHL_l
  /-- `LD (HL),A` (opcode 0x77, R82). -/
  | ld_atHL_a
  /-- `LD A,B` (opcode 0x78, R80). -/
  | ld_a_b
  /-- `LD A,C` (opcode 0x79, R80). -/
  | ld_a_c
  /-- `LD A,D` (opcode 0x7A, R80). -/
  | ld_a_d
  /-- `LD A,E` (opcode 0x7B, R80). -/
  | ld_a_e
  /-- `LD A,H` (opcode 0x7C, R80). -/
  | ld_a_h
  /-- `LD A,L` (opcode 0x7D, R80). -/
  | ld_a_l
  /-- `LD A,(HL)` (opcode 0x7E, R81). -/
  | ld_a_atHL
  /-- `LD A,A` (opcode 0x7F, R80). -/
  | ld_a_a
  /-- `ADD A,B` (opcode 0x80, R133). -/
  | add_a_b
  /-- `ADD A,C` (opcode 0x81, R133). -/
  | add_a_c
  /-- `ADD A,D` (opcode 0x82, R133). -/
  | add_a_d
  /-- `ADD A,E` (opcode 0x83, R133). -/
  | add_a_e
  /-- `ADD A,H` (opcode 0x84, R133). -/
  | add_a_h
  /-- `ADD A,L` (opcode 0x85, R133). -/
  | add_a_l
  /-- `ADD A,(HL)` (opcode 0x86, R134). -/
  | add_a_atHL
  /-- `ADD A,A` (opcode 0x87, R133). -/
  | add_a_a
  /-- `ADC A,B` (opcode 0x88, R136). -/
  | adc_a_b
  /-- `ADC A,C` (opcode 0x89, R136). -/
  | adc_a_c
  /-- `ADC A,D` (opcode 0x8A, R136). -/
  | adc_a_d
  /-- `ADC A,E` (opcode 0x8B, R136). -/
  | adc_a_e
  /-- `ADC A,H` (opcode 0x8C, R136). -/
  | adc_a_h
  /-- `ADC A,L` (opcode 0x8D, R136). -/
  | adc_a_l
  /-- `ADC A,(HL)` (opcode 0x8E, R137). -/
  | adc_a_atHL
  /-- `ADC A,A` (opcode 0x8F, R136). -/
  | adc_a_a
  /-- `SUB A,B` (opcode 0x90, R139). -/
  | sub_a_b
  /-- `SUB A,C` (opcode 0x91, R139). -/
  | sub_a_c
  /-- `SUB A,D` (opcode 0x92, R139). -/
  | sub_a_d
  /-- `SUB A,E` (opcode 0x93, R139). -/
  | sub_a_e
  /-- `SUB A,H` (opcode 0x94, R139). -/
  | sub_a_h
  /-- `SUB A,L` (opcode 0x95, R139). -/
  | sub_a_l
  /-- `SUB A,(HL)` (opcode 0x96, R140). -/
  | sub_a_atHL
  /-- `SUB A,A` (opcode 0x97, R139). -/
  | sub_a_a
  /-- `SBC A,B` (opcode 0x98, R142). -/
  | sbc_a_b
  /-- `SBC A,C` (opcode 0x99, R142). -/
  | sbc_a_c
  /-- `SBC A,D` (opcode 0x9A, R142). -/
  | sbc_a_d
  /-- `SBC A,E` (opcode 0x9B, R142). -/
  | sbc_a_e
  /-- `SBC A,H` (opcode 0x9C, R142). -/
  | sbc_a_h
  /-- `SBC A,L` (opcode 0x9D, R142). -/
  | sbc_a_l
  /-- `SBC A,(HL)` (opcode 0x9E, R143). -/
  | sbc_a_atHL
  /-- `SBC A,A` (opcode 0x9F, R142). -/
  | sbc_a_a
  /-- `AND A,B` (opcode 0xA0, R145). -/
  | and_a_b
  /-- `AND A,C` (opcode 0xA1, R145). -/
  | and_a_c
  /-- `AND A,D` (opcode 0xA2, R145). -/
  | and_a_d
  /-- `AND A,E` (opcode 0xA3, R145). -/
  | and_a_e
  /-- `AND A,H` (opcode 0xA4, R145). -/
  | and_a_h
  /-- `AND A,L` (opcode 0xA5, R145). -/
  | and_a_l
  /-- `AND A,(HL)` (opcode 0xA6, R146). -/
  | and_a_atHL
  /-- `AND A,A` (opcode 0xA7, R145). -/
  | and_a_a
  /-- `XOR A,B` (opcode 0xA8, R148). -/
  | xor_a_b
  /-- `XOR A,C` (opcode 0xA9, R148). -/
  | xor_a_c
  /-- `XOR A,D` (opcode 0xAA, R148). -/
  | xor_a_d
  /-- `XOR A,E` (opcode 0xAB, R148). -/
  | xor_a_e
  /-- `XOR A,H` (opcode 0xAC, R148). -/
  | xor_a_h
  /-- `XOR A,L` (opcode 0xAD, R148). -/
  | xor_a_l
  /-- `XOR A,(HL)` (opcode 0xAE, R149). -/
  | xor_a_atHL
  /-- `XOR A,A` (opcode 0xAF, R148). -/
  | xor_a_a
  /-- `OR A,B` (opcode 0xB0, R151). -/
  | or_a_b
  /-- `OR A,C` (opcode 0xB1, R151). -/
  | or_a_c
  /-- `OR A,D` (opcode 0xB2, R151). -/
  | or_a_d
  /-- `OR A,E` (opcode 0xB3, R151). -/
  | or_a_e
  /-- `OR A,H` (opcode 0xB4, R151). -/
  | or_a_h
  /-- `OR A,L` (opcode 0xB5, R151). -/
  | or_a_l
  /-- `OR A,(HL)` (opcode 0xB6, R152). -/
  | or_a_atHL
  /-- `OR A,A` (opcode 0xB7, R151). -/
  | or_a_a
  /-- `CP A,B` (opcode 0xB8, R154). -/
  | cp_a_b
  /-- `CP A,C` (opcode 0xB9, R154). -/
  | cp_a_c
  /-- `CP A,D` (opcode 0xBA, R154). -/
  | cp_a_d
  /-- `CP A,E` (opcode 0xBB, R154). -/
  | cp_a_e
  /-- `CP A,H` (opcode 0xBC, R154). -/
  | cp_a_h
  /-- `CP A,L` (opcode 0xBD, R154). -/
  | cp_a_l
  /-- `CP A,(HL)` (opcode 0xBE, R155). -/
  | cp_a_atHL
  /-- `CP A,A` (opcode 0xBF, R154). -/
  | cp_a_a
  /-- `POP BC` (opcode 0xC1, R105). -/
  | pop_bc
  /-- `PUSH BC` (opcode 0xC5, R103). -/
  | push_bc
  /-- `ADD A,d8` (opcode 0xC6, R135). -/
  | add_a_d8 (d8 : Byte)
  /-- `ADC A,d8` (opcode 0xCE, R138). -/
  | adc_a_d8 (d8 : Byte)
  /-- `POP DE` (opcode 0xD1, R105). -/
  | pop_de
  /-- `PUSH DE` (opcode 0xD5, R103). -/
  | push_de
  /-- `SUB A,d8` (opcode 0xD6, R141). -/
  | sub_a_d8 (d8 : Byte)
  /-- `SBC A,d8` (opcode 0xDE, R144). -/
  | sbc_a_d8 (d8 : Byte)
  /-- `LDH (a8),A` (opcode 0xE0, R90). -/
  | ldh_atA8_a (a8 : Byte)
  /-- `POP HL` (opcode 0xE1, R105). -/
  | pop_hl
  /-- `PUSH HL` (opcode 0xE5, R103). -/
  | push_hl
  /-- `AND A,d8` (opcode 0xE6, R147). -/
  | and_a_d8 (d8 : Byte)
  /-- `LD (a16),A` (opcode 0xEA, R92). -/
  | ld_atA16_a (a16 : Word)
  /-- `XOR A,d8` (opcode 0xEE, R150). -/
  | xor_a_d8 (d8 : Byte)
  /-- `LDH A,(a8)` (opcode 0xF0, R89). -/
  | ldh_a_atA8 (a8 : Byte)
  /-- `POP AF` (opcode 0xF1, R106). -/
  | pop_af
  /-- `PUSH AF` (opcode 0xF5, R104). -/
  | push_af
  /-- `OR A,d8` (opcode 0xF6, R153). -/
  | or_a_d8 (d8 : Byte)
  /-- `LD HL,SP+s8` (opcode 0xF8, R108). -/
  | ld_hl_spS8 (s8 : Byte)
  /-- `LD SP,HL` (opcode 0xF9, R107). -/
  | ld_sp_hl
  /-- `LD A,(a16)` (opcode 0xFA, R91). -/
  | ld_a_atA16 (a16 : Word)
  /-- `CP A,d8` (opcode 0xFE, R156). -/
  | cp_a_d8 (d8 : Byte)
deriving DecidableEq, Repr

end Sys2Proof
end

