-- ==== Sys2Proof/WellFormed.lean ====
section
/-! DEFINITION. Well-formedness of what the outside world hands to the machine: a program image and the width of the
cycle counter. A term of `Instr` needs no check: its registers are names (F and `(HL)` are no r8 operand, R13, R52)
and its immediates are bit vectors of the width R56 gives, so an ill-formed instruction cannot be written. -/

namespace Sys2Proof

/-- An image that `loadImage` accepts (R192): at most `IMAGE_MAX` bytes. -/
def imageWellFormed (bytes : List Byte) : Bool := bytes.length ≤ Config.imageMax

/-- A width the cycle counter may have (R7 `CYCW`). -/
def cycwWellFormed (cycw : Nat) : Bool := Config.cycwMin ≤ cycw

end Sys2Proof
end

