-- ==== Sys2Proof/Decode.lean ====
section
/-! DEFINITION. The byte helpers, the opcode map (R55) as the Dispatch Table, the decoder, and, after it, the encoder.
The reading of the opcode byte as fields (R51 to R54) stands beside the table: a statement says that they agree. -/

namespace Sys2Proof

/-! ## Bytes and words -/

/-- `h:l`, the concatenation of R8: `h` in the upper bits. -/
def wordOf (hi lo : Byte) : Word := hi ++ lo

/-- `w[15:8]`. -/
def hiByte (w : Word) : Byte := w.extractLsb' 8 8

/-- `w[7:0]`. -/
def loByte (w : Word) : Byte := w.extractLsb' 0 8

/-- `sext_16(v)` of R8. -/
def sext16 (v : Byte) : Word := v.signExtend 16

/-- `zext_16(v)` of R8. -/
def zext16 (v : Byte) : Word := v.setWidth 16

/-! ## Operand names -/

/-- The selector that an r8 operand stands for. -/
def R8.reg : R8 → Reg
  | .b => .b
  | .c => .c
  | .d => .d
  | .e => .e
  | .h => .h
  | .l => .l
  | .a => .a

/-- The pair that an `rr` operand stands for. -/
def RR.pair : RR → Pair
  | .bc => .bc
  | .de => .de
  | .hl => .hl

/-- `hi(rr)`: the first-named register of a pair, its high byte (R12). -/
def Pair.hi : Pair → Reg
  | .bc => .b
  | .de => .d
  | .hl => .h
  | .af => .a

/-- `lo(rr)`: the second-named register of a pair, its low byte (R12). -/
def Pair.lo : Pair → Reg
  | .bc => .c
  | .de => .e
  | .hl => .l
  | .af => .f

/-- The 3-bit field value of an r8 operand (R52). -/
def R8.code : R8 → BitVec 3
  | .b => 0
  | .c => 1
  | .d => 2
  | .e => 3
  | .h => 4
  | .l => 5
  | .a => 7

/-- The 2-bit field value of an `rr` operand (R53). -/
def RR.code : RR → BitVec 2
  | .bc => 0
  | .de => 1
  | .hl => 2

/-- The 3-bit field value of an accumulator operation (R54). -/
def AluOp.code : AluOp → BitVec 3
  | .add => 0
  | .adc => 1
  | .sub => 2
  | .sbc => 3
  | .and => 4
  | .xor => 5
  | .or => 6
  | .cp => 7

/-! ## Forms -/

/-- The general form of an instruction with its operands: the `form` and `fields` columns of the table. -/
def Instr.form : Instr → Form
  | .nop => .nop
  | .ld_bc_d16 d16 => .ldPairImm .bc d16
  | .ld_atBC_a => .ldBCA
  | .inc_b => .incReg .b
  | .dec_b => .decReg .b
  | .ld_b_d8 d8 => .ldRegImm .b d8
  | .ld_atA16_sp a16 => .ldAbsSP a16
  | .ld_a_atBC => .ldABC
  | .inc_c => .incReg .c
  | .dec_c => .decReg .c
  | .ld_c_d8 d8 => .ldRegImm .c d8
  | .ld_de_d16 d16 => .ldPairImm .de d16
  | .ld_atDE_a => .ldDEA
  | .inc_d => .incReg .d
  | .dec_d => .decReg .d
  | .ld_d_d8 d8 => .ldRegImm .d d8
  | .ld_a_atDE => .ldADE
  | .inc_e => .incReg .e
  | .dec_e => .decReg .e
  | .ld_e_d8 d8 => .ldRegImm .e d8
  | .ld_hl_d16 d16 => .ldPairImm .hl d16
  | .inc_h => .incReg .h
  | .dec_h => .decReg .h
  | .ld_h_d8 d8 => .ldRegImm .h d8
  | .daa => .daa
  | .inc_l => .incReg .l
  | .dec_l => .decReg .l
  | .ld_l_d8 d8 => .ldRegImm .l d8
  | .cpl => .cpl
  | .ld_sp_d16 d16 => .ldSPImm d16
  | .inc_atHL => .incHL
  | .dec_atHL => .decHL
  | .ld_atHL_d8 d8 => .ldHLImm d8
  | .scf => .scf
  | .inc_a => .incReg .a
  | .dec_a => .decReg .a
  | .ld_a_d8 d8 => .ldRegImm .a d8
  | .ccf => .ccf
  | .ld_b_b => .ldRegReg .b .b
  | .ld_b_c => .ldRegReg .b .c
  | .ld_b_d => .ldRegReg .b .d
  | .ld_b_e => .ldRegReg .b .e
  | .ld_b_h => .ldRegReg .b .h
  | .ld_b_l => .ldRegReg .b .l
  | .ld_b_atHL => .ldRegHL .b
  | .ld_b_a => .ldRegReg .b .a
  | .ld_c_b => .ldRegReg .c .b
  | .ld_c_c => .ldRegReg .c .c
  | .ld_c_d => .ldRegReg .c .d
  | .ld_c_e => .ldRegReg .c .e
  | .ld_c_h => .ldRegReg .c .h
  | .ld_c_l => .ldRegReg .c .l
  | .ld_c_atHL => .ldRegHL .c
  | .ld_c_a => .ldRegReg .c .a
  | .ld_d_b => .ldRegReg .d .b
  | .ld_d_c => .ldRegReg .d .c
  | .ld_d_d => .ldRegReg .d .d
  | .ld_d_e => .ldRegReg .d .e
  | .ld_d_h => .ldRegReg .d .h
  | .ld_d_l => .ldRegReg .d .l
  | .ld_d_atHL => .ldRegHL .d
  | .ld_d_a => .ldRegReg .d .a
  | .ld_e_b => .ldRegReg .e .b
  | .ld_e_c => .ldRegReg .e .c
  | .ld_e_d => .ldRegReg .e .d
  | .ld_e_e => .ldRegReg .e .e
  | .ld_e_h => .ldRegReg .e .h
  | .ld_e_l => .ldRegReg .e .l
  | .ld_e_atHL => .ldRegHL .e
  | .ld_e_a => .ldRegReg .e .a
  | .ld_h_b => .ldRegReg .h .b
  | .ld_h_c => .ldRegReg .h .c
  | .ld_h_d => .ldRegReg .h .d
  | .ld_h_e => .ldRegReg .h .e
  | .ld_h_h => .ldRegReg .h .h
  | .ld_h_l => .ldRegReg .h .l
  | .ld_h_atHL => .ldRegHL .h
  | .ld_h_a => .ldRegReg .h .a
  | .ld_l_b => .ldRegReg .l .b
  | .ld_l_c => .ldRegReg .l .c
  | .ld_l_d => .ldRegReg .l .d
  | .ld_l_e => .ldRegReg .l .e
  | .ld_l_h => .ldRegReg .l .h
  | .ld_l_l => .ldRegReg .l .l
  | .ld_l_atHL => .ldRegHL .l
  | .ld_l_a => .ldRegReg .l .a
  | .ld_atHL_b => .ldHLReg .b
  | .ld_atHL_c => .ldHLReg .c
  | .ld_atHL_d => .ldHLReg .d
  | .ld_atHL_e => .ldHLReg .e
  | .ld_atHL_h => .ldHLReg .h
  | .ld_atHL_l => .ldHLReg .l
  | .ld_atHL_a => .ldHLReg .a
  | .ld_a_b => .ldRegReg .a .b
  | .ld_a_c => .ldRegReg .a .c
  | .ld_a_d => .ldRegReg .a .d
  | .ld_a_e => .ldRegReg .a .e
  | .ld_a_h => .ldRegReg .a .h
  | .ld_a_l => .ldRegReg .a .l
  | .ld_a_atHL => .ldRegHL .a
  | .ld_a_a => .ldRegReg .a .a
  | .add_a_b => .aluReg .add .b
  | .add_a_c => .aluReg .add .c
  | .add_a_d => .aluReg .add .d
  | .add_a_e => .aluReg .add .e
  | .add_a_h => .aluReg .add .h
  | .add_a_l => .aluReg .add .l
  | .add_a_atHL => .aluHL .add
  | .add_a_a => .aluReg .add .a
  | .adc_a_b => .aluReg .adc .b
  | .adc_a_c => .aluReg .adc .c
  | .adc_a_d => .aluReg .adc .d
  | .adc_a_e => .aluReg .adc .e
  | .adc_a_h => .aluReg .adc .h
  | .adc_a_l => .aluReg .adc .l
  | .adc_a_atHL => .aluHL .adc
  | .adc_a_a => .aluReg .adc .a
  | .sub_a_b => .aluReg .sub .b
  | .sub_a_c => .aluReg .sub .c
  | .sub_a_d => .aluReg .sub .d
  | .sub_a_e => .aluReg .sub .e
  | .sub_a_h => .aluReg .sub .h
  | .sub_a_l => .aluReg .sub .l
  | .sub_a_atHL => .aluHL .sub
  | .sub_a_a => .aluReg .sub .a
  | .sbc_a_b => .aluReg .sbc .b
  | .sbc_a_c => .aluReg .sbc .c
  | .sbc_a_d => .aluReg .sbc .d
  | .sbc_a_e => .aluReg .sbc .e
  | .sbc_a_h => .aluReg .sbc .h
  | .sbc_a_l => .aluReg .sbc .l
  | .sbc_a_atHL => .aluHL .sbc
  | .sbc_a_a => .aluReg .sbc .a
  | .and_a_b => .aluReg .and .b
  | .and_a_c => .aluReg .and .c
  | .and_a_d => .aluReg .and .d
  | .and_a_e => .aluReg .and .e
  | .and_a_h => .aluReg .and .h
  | .and_a_l => .aluReg .and .l
  | .and_a_atHL => .aluHL .and
  | .and_a_a => .aluReg .and .a
  | .xor_a_b => .aluReg .xor .b
  | .xor_a_c => .aluReg .xor .c
  | .xor_a_d => .aluReg .xor .d
  | .xor_a_e => .aluReg .xor .e
  | .xor_a_h => .aluReg .xor .h
  | .xor_a_l => .aluReg .xor .l
  | .xor_a_atHL => .aluHL .xor
  | .xor_a_a => .aluReg .xor .a
  | .or_a_b => .aluReg .or .b
  | .or_a_c => .aluReg .or .c
  | .or_a_d => .aluReg .or .d
  | .or_a_e => .aluReg .or .e
  | .or_a_h => .aluReg .or .h
  | .or_a_l => .aluReg .or .l
  | .or_a_atHL => .aluHL .or
  | .or_a_a => .aluReg .or .a
  | .cp_a_b => .aluReg .cp .b
  | .cp_a_c => .aluReg .cp .c
  | .cp_a_d => .aluReg .cp .d
  | .cp_a_e => .aluReg .cp .e
  | .cp_a_h => .aluReg .cp .h
  | .cp_a_l => .aluReg .cp .l
  | .cp_a_atHL => .aluHL .cp
  | .cp_a_a => .aluReg .cp .a
  | .pop_bc => .pop .bc
  | .push_bc => .push .bc
  | .add_a_d8 d8 => .aluImm .add d8
  | .adc_a_d8 d8 => .aluImm .adc d8
  | .pop_de => .pop .de
  | .push_de => .push .de
  | .sub_a_d8 d8 => .aluImm .sub d8
  | .sbc_a_d8 d8 => .aluImm .sbc d8
  | .ldh_atA8_a a8 => .ldhAStore a8
  | .pop_hl => .pop .hl
  | .push_hl => .push .hl
  | .and_a_d8 d8 => .aluImm .and d8
  | .ld_atA16_a a16 => .ldAbsA a16
  | .xor_a_d8 d8 => .aluImm .xor d8
  | .ldh_a_atA8 a8 => .ldhALoad a8
  | .pop_af => .popAF
  | .push_af => .pushAF
  | .or_a_d8 d8 => .aluImm .or d8
  | .ld_hl_spS8 s8 => .ldHLSP s8
  | .ld_sp_hl => .ldSPHL
  | .ld_a_atA16 a16 => .ldAAbs a16
  | .cp_a_d8 d8 => .aluImm .cp d8

/-- The immediate bytes after the opcode, in address order: low byte first (R50, R56). -/
def Form.operandBytes : Form → List Byte
  | .nop => []
  | .ldRegReg _ _ => []
  | .ldRegHL _ => []
  | .ldHLReg _ => []
  | .ldRegImm _ d8 => [d8]
  | .ldHLImm d8 => [d8]
  | .ldABC => []
  | .ldADE => []
  | .ldBCA => []
  | .ldDEA => []
  | .ldhALoad a8 => [a8]
  | .ldhAStore a8 => [a8]
  | .ldAAbs a16 => [loByte a16, hiByte a16]
  | .ldAbsA a16 => [loByte a16, hiByte a16]
  | .ldPairImm _ d16 => [loByte d16, hiByte d16]
  | .ldSPImm d16 => [loByte d16, hiByte d16]
  | .ldAbsSP a16 => [loByte a16, hiByte a16]
  | .push _ => []
  | .pushAF => []
  | .pop _ => []
  | .popAF => []
  | .ldSPHL => []
  | .ldHLSP s8 => [s8]
  | .incReg _ => []
  | .incHL => []
  | .decReg _ => []
  | .decHL => []
  | .daa => []
  | .scf => []
  | .cpl => []
  | .ccf => []
  | .aluReg _ _ => []
  | .aluHL _ => []
  | .aluImm _ d8 => [d8]

/-- The cycle cost of each form, in ticks of the 4.194304 MHz clock (R61). -/
def Form.cost : Form → Nat
  | .nop => 4
  | .ldRegReg _ _ => 4
  | .ldRegHL _ => 8
  | .ldHLReg _ => 8
  | .ldRegImm _ _ => 8
  | .ldHLImm _ => 12
  | .ldABC => 8
  | .ldADE => 8
  | .ldBCA => 8
  | .ldDEA => 8
  | .ldhALoad _ => 12
  | .ldhAStore _ => 12
  | .ldAAbs _ => 16
  | .ldAbsA _ => 16
  | .ldPairImm _ _ => 12
  | .ldSPImm _ => 12
  | .ldAbsSP _ => 20
  | .push _ => 16
  | .pushAF => 16
  | .pop _ => 12
  | .popAF => 12
  | .ldSPHL => 8
  | .ldHLSP _ => 12
  | .incReg _ => 4
  | .incHL => 12
  | .decReg _ => 4
  | .decHL => 12
  | .daa => 4
  | .scf => 4
  | .cpl => 4
  | .ccf => 4
  | .aluReg _ _ => 4
  | .aluHL _ => 8
  | .aluImm _ _ => 8

/-- `Cost` of R7 and R61. -/
def Instr.cost (i : Instr) : Nat := i.form.cost

/-- The length in bytes: the opcode and the immediate bytes (R50). -/
def Instr.length (i : Instr) : Nat := i.form.operandBytes.length + 1

/-! ## The Dispatch Table -/

/-- An entry of the Dispatch Table: the format of R50 and the instruction it makes of the immediate. -/
inductive Entry where
  /-- Format F1: no immediate. -/
  | f1 (i : Instr)
  /-- Format F2: one immediate byte. -/
  | f2 (mk : Byte → Instr)
  /-- Format F3: a 16-bit immediate, low byte first. -/
  | f3 (mk : Word → Instr)

/-- Row 0x of the opcode map (R55). -/
def opcodeRow0 : List (Byte × Entry) :=
  [
   (0x00, .f1 .nop),
   (0x01, .f3 .ld_bc_d16),
   (0x02, .f1 .ld_atBC_a),
   (0x04, .f1 .inc_b),
   (0x05, .f1 .dec_b),
   (0x06, .f2 .ld_b_d8),
   (0x08, .f3 .ld_atA16_sp),
   (0x0A, .f1 .ld_a_atBC),
   (0x0C, .f1 .inc_c),
   (0x0D, .f1 .dec_c),
   (0x0E, .f2 .ld_c_d8)
  ]

/-- Row 1x of the opcode map (R55). -/
def opcodeRow1 : List (Byte × Entry) :=
  [
   (0x11, .f3 .ld_de_d16),
   (0x12, .f1 .ld_atDE_a),
   (0x14, .f1 .inc_d),
   (0x15, .f1 .dec_d),
   (0x16, .f2 .ld_d_d8),
   (0x1A, .f1 .ld_a_atDE),
   (0x1C, .f1 .inc_e),
   (0x1D, .f1 .dec_e),
   (0x1E, .f2 .ld_e_d8)
  ]

/-- Row 2x of the opcode map (R55). -/
def opcodeRow2 : List (Byte × Entry) :=
  [
   (0x21, .f3 .ld_hl_d16),
   (0x24, .f1 .inc_h),
   (0x25, .f1 .dec_h),
   (0x26, .f2 .ld_h_d8),
   (0x27, .f1 .daa),
   (0x2C, .f1 .inc_l),
   (0x2D, .f1 .dec_l),
   (0x2E, .f2 .ld_l_d8),
   (0x2F, .f1 .cpl)
  ]

/-- Row 3x of the opcode map (R55). -/
def opcodeRow3 : List (Byte × Entry) :=
  [
   (0x31, .f3 .ld_sp_d16),
   (0x34, .f1 .inc_atHL),
   (0x35, .f1 .dec_atHL),
   (0x36, .f2 .ld_atHL_d8),
   (0x37, .f1 .scf),
   (0x3C, .f1 .inc_a),
   (0x3D, .f1 .dec_a),
   (0x3E, .f2 .ld_a_d8),
   (0x3F, .f1 .ccf)
  ]

/-- Row 4x of the opcode map (R55). -/
def opcodeRow4 : List (Byte × Entry) :=
  [
   (0x40, .f1 .ld_b_b),
   (0x41, .f1 .ld_b_c),
   (0x42, .f1 .ld_b_d),
   (0x43, .f1 .ld_b_e),
   (0x44, .f1 .ld_b_h),
   (0x45, .f1 .ld_b_l),
   (0x46, .f1 .ld_b_atHL),
   (0x47, .f1 .ld_b_a),
   (0x48, .f1 .ld_c_b),
   (0x49, .f1 .ld_c_c),
   (0x4A, .f1 .ld_c_d),
   (0x4B, .f1 .ld_c_e),
   (0x4C, .f1 .ld_c_h),
   (0x4D, .f1 .ld_c_l),
   (0x4E, .f1 .ld_c_atHL),
   (0x4F, .f1 .ld_c_a)
  ]

/-- Row 5x of the opcode map (R55). -/
def opcodeRow5 : List (Byte × Entry) :=
  [
   (0x50, .f1 .ld_d_b),
   (0x51, .f1 .ld_d_c),
   (0x52, .f1 .ld_d_d),
   (0x53, .f1 .ld_d_e),
   (0x54, .f1 .ld_d_h),
   (0x55, .f1 .ld_d_l),
   (0x56, .f1 .ld_d_atHL),
   (0x57, .f1 .ld_d_a),
   (0x58, .f1 .ld_e_b),
   (0x59, .f1 .ld_e_c),
   (0x5A, .f1 .ld_e_d),
   (0x5B, .f1 .ld_e_e),
   (0x5C, .f1 .ld_e_h),
   (0x5D, .f1 .ld_e_l),
   (0x5E, .f1 .ld_e_atHL),
   (0x5F, .f1 .ld_e_a)
  ]

/-- Row 6x of the opcode map (R55). -/
def opcodeRow6 : List (Byte × Entry) :=
  [
   (0x60, .f1 .ld_h_b),
   (0x61, .f1 .ld_h_c),
   (0x62, .f1 .ld_h_d),
   (0x63, .f1 .ld_h_e),
   (0x64, .f1 .ld_h_h),
   (0x65, .f1 .ld_h_l),
   (0x66, .f1 .ld_h_atHL),
   (0x67, .f1 .ld_h_a),
   (0x68, .f1 .ld_l_b),
   (0x69, .f1 .ld_l_c),
   (0x6A, .f1 .ld_l_d),
   (0x6B, .f1 .ld_l_e),
   (0x6C, .f1 .ld_l_h),
   (0x6D, .f1 .ld_l_l),
   (0x6E, .f1 .ld_l_atHL),
   (0x6F, .f1 .ld_l_a)
  ]

/-- Row 7x of the opcode map (R55). -/
def opcodeRow7 : List (Byte × Entry) :=
  [
   (0x70, .f1 .ld_atHL_b),
   (0x71, .f1 .ld_atHL_c),
   (0x72, .f1 .ld_atHL_d),
   (0x73, .f1 .ld_atHL_e),
   (0x74, .f1 .ld_atHL_h),
   (0x75, .f1 .ld_atHL_l),
   (0x77, .f1 .ld_atHL_a),
   (0x78, .f1 .ld_a_b),
   (0x79, .f1 .ld_a_c),
   (0x7A, .f1 .ld_a_d),
   (0x7B, .f1 .ld_a_e),
   (0x7C, .f1 .ld_a_h),
   (0x7D, .f1 .ld_a_l),
   (0x7E, .f1 .ld_a_atHL),
   (0x7F, .f1 .ld_a_a)
  ]

/-- Row 8x of the opcode map (R55). -/
def opcodeRow8 : List (Byte × Entry) :=
  [
   (0x80, .f1 .add_a_b),
   (0x81, .f1 .add_a_c),
   (0x82, .f1 .add_a_d),
   (0x83, .f1 .add_a_e),
   (0x84, .f1 .add_a_h),
   (0x85, .f1 .add_a_l),
   (0x86, .f1 .add_a_atHL),
   (0x87, .f1 .add_a_a),
   (0x88, .f1 .adc_a_b),
   (0x89, .f1 .adc_a_c),
   (0x8A, .f1 .adc_a_d),
   (0x8B, .f1 .adc_a_e),
   (0x8C, .f1 .adc_a_h),
   (0x8D, .f1 .adc_a_l),
   (0x8E, .f1 .adc_a_atHL),
   (0x8F, .f1 .adc_a_a)
  ]

/-- Row 9x of the opcode map (R55). -/
def opcodeRow9 : List (Byte × Entry) :=
  [
   (0x90, .f1 .sub_a_b),
   (0x91, .f1 .sub_a_c),
   (0x92, .f1 .sub_a_d),
   (0x93, .f1 .sub_a_e),
   (0x94, .f1 .sub_a_h),
   (0x95, .f1 .sub_a_l),
   (0x96, .f1 .sub_a_atHL),
   (0x97, .f1 .sub_a_a),
   (0x98, .f1 .sbc_a_b),
   (0x99, .f1 .sbc_a_c),
   (0x9A, .f1 .sbc_a_d),
   (0x9B, .f1 .sbc_a_e),
   (0x9C, .f1 .sbc_a_h),
   (0x9D, .f1 .sbc_a_l),
   (0x9E, .f1 .sbc_a_atHL),
   (0x9F, .f1 .sbc_a_a)
  ]

/-- Row Ax of the opcode map (R55). -/
def opcodeRowA : List (Byte × Entry) :=
  [
   (0xA0, .f1 .and_a_b),
   (0xA1, .f1 .and_a_c),
   (0xA2, .f1 .and_a_d),
   (0xA3, .f1 .and_a_e),
   (0xA4, .f1 .and_a_h),
   (0xA5, .f1 .and_a_l),
   (0xA6, .f1 .and_a_atHL),
   (0xA7, .f1 .and_a_a),
   (0xA8, .f1 .xor_a_b),
   (0xA9, .f1 .xor_a_c),
   (0xAA, .f1 .xor_a_d),
   (0xAB, .f1 .xor_a_e),
   (0xAC, .f1 .xor_a_h),
   (0xAD, .f1 .xor_a_l),
   (0xAE, .f1 .xor_a_atHL),
   (0xAF, .f1 .xor_a_a)
  ]

/-- Row Bx of the opcode map (R55). -/
def opcodeRowB : List (Byte × Entry) :=
  [
   (0xB0, .f1 .or_a_b),
   (0xB1, .f1 .or_a_c),
   (0xB2, .f1 .or_a_d),
   (0xB3, .f1 .or_a_e),
   (0xB4, .f1 .or_a_h),
   (0xB5, .f1 .or_a_l),
   (0xB6, .f1 .or_a_atHL),
   (0xB7, .f1 .or_a_a),
   (0xB8, .f1 .cp_a_b),
   (0xB9, .f1 .cp_a_c),
   (0xBA, .f1 .cp_a_d),
   (0xBB, .f1 .cp_a_e),
   (0xBC, .f1 .cp_a_h),
   (0xBD, .f1 .cp_a_l),
   (0xBE, .f1 .cp_a_atHL),
   (0xBF, .f1 .cp_a_a)
  ]

/-- Row Cx of the opcode map (R55). -/
def opcodeRowC : List (Byte × Entry) :=
  [
   (0xC1, .f1 .pop_bc),
   (0xC5, .f1 .push_bc),
   (0xC6, .f2 .add_a_d8),
   (0xCE, .f2 .adc_a_d8)
  ]

/-- Row Dx of the opcode map (R55). -/
def opcodeRowD : List (Byte × Entry) :=
  [
   (0xD1, .f1 .pop_de),
   (0xD5, .f1 .push_de),
   (0xD6, .f2 .sub_a_d8),
   (0xDE, .f2 .sbc_a_d8)
  ]

/-- Row Ex of the opcode map (R55). -/
def opcodeRowE : List (Byte × Entry) :=
  [
   (0xE0, .f2 .ldh_atA8_a),
   (0xE1, .f1 .pop_hl),
   (0xE5, .f1 .push_hl),
   (0xE6, .f2 .and_a_d8),
   (0xEA, .f3 .ld_atA16_a),
   (0xEE, .f2 .xor_a_d8)
  ]

/-- Row Fx of the opcode map (R55). -/
def opcodeRowF : List (Byte × Entry) :=
  [
   (0xF0, .f2 .ldh_a_atA8),
   (0xF1, .f1 .pop_af),
   (0xF5, .f1 .push_af),
   (0xF6, .f2 .or_a_d8),
   (0xF8, .f2 .ld_hl_spS8),
   (0xF9, .f1 .ld_sp_hl),
   (0xFA, .f3 .ld_a_atA16),
   (0xFE, .f2 .cp_a_d8)
  ]

/-- The row of the opcode map that a high hexadecimal digit selects (R55). -/
def opcodeRow (hi : Nat) : List (Byte × Entry) :=
  match hi with
  | 0x0 => opcodeRow0
  | 0x1 => opcodeRow1
  | 0x2 => opcodeRow2
  | 0x3 => opcodeRow3
  | 0x4 => opcodeRow4
  | 0x5 => opcodeRow5
  | 0x6 => opcodeRow6
  | 0x7 => opcodeRow7
  | 0x8 => opcodeRow8
  | 0x9 => opcodeRow9
  | 0xA => opcodeRowA
  | 0xB => opcodeRowB
  | 0xC => opcodeRowC
  | 0xD => opcodeRowD
  | 0xE => opcodeRowE
  | _ => opcodeRowF

/-- The entry of an opcode byte in a list of rows. -/
def lookupEntry (op : Byte) : List (Byte × Entry) → Option Entry
  | [] => none
  | (b, e) :: rest => if op = b then some e else lookupEntry op rest

/-- The Dispatch Table: the entry of an opcode byte, none for the 69 unmapped bytes (R55, R57). -/
def dispatchEntry (op : Byte) : Option Entry := lookupEntry op (opcodeRow (op.toNat / 16))

/-- The number of bytes of each format (R50). -/
def Entry.length : Entry → Nat
  | .f1 _ => 1
  | .f2 _ => 2
  | .f3 _ => 3

/-- The length a decoder tells from the opcode byte alone, none for an unmapped byte (R58). -/
def opcodeLength (op : Byte) : Option Nat :=
  match dispatchEntry op with
  | some e => some e.length
  | none => none

/-! ## The decoder -/

/-- Why a list of bytes does not begin with an instruction. -/
inductive DecodeError where
  /-- The first byte has no Dispatch Table entry (R57). -/
  | unmapped (op : Byte)
  /-- The list ends before the instruction does. -/
  | truncated
deriving DecidableEq, Repr

/-- Read one instruction from the front of a list of bytes, in address order; the rest of the list is answered
(R50, R58). -/
def decode : List Byte → Except DecodeError (Instr × List Byte)
  | [] => .error .truncated
  | op :: rest =>
    match dispatchEntry op with
    | none => .error (.unmapped op)
    | some (.f1 i) => .ok (i, rest)
    | some (.f2 mk) =>
      match rest with
      | v :: rest => .ok (mk v, rest)
      | [] => .error .truncated
    | some (.f3 mk) =>
      match rest with
      | lo :: hi :: rest => .ok (mk (wordOf hi lo), rest)
      | [_] => .error .truncated
      | [] => .error .truncated

/-- The first three bytes of a table word, least significant first, with the bits above `nbits` zero. -/
def tableBytes (nbits w : Nat) : List Byte :=
  let v := w % 2 ^ nbits
  [BitVec.ofNat 8 v, BitVec.ofNat 8 (v / 256), BitVec.ofNat 8 (v / 65536)]

/-- The instruction the decoder reads from a word numbered as spec/opcode_table.json numbers it: the first byte is
bits 7..0. -/
def decodeTableWord (nbits w : Nat) : Option Instr :=
  match decode (tableBytes nbits w) with
  | .ok (i, _) => some i
  | .error _ => none

/-! ## The opcode byte as fields -/

/-- The register that a 3-bit field value names; 6 is `(HL)`, no register (R52). -/
def R8.ofCode (k : BitVec 3) : Option R8 :=
  match k.toNat with
  | 0 => some .b
  | 1 => some .c
  | 2 => some .d
  | 3 => some .e
  | 4 => some .h
  | 5 => some .l
  | 7 => some .a
  | _ => none

/-- The pair that a 2-bit field value names; 3 is SP (rp) or AF (rp2), another instruction (R53). -/
def RR.ofCode (p : BitVec 2) : Option RR :=
  match p.toNat with
  | 0 => some .bc
  | 1 => some .de
  | 2 => some .hl
  | _ => none

/-- The operation that a 3-bit field value names (R54). -/
def AluOp.ofCode (k : BitVec 3) : AluOp :=
  match k.toNat with
  | 0 => .add
  | 1 => .adc
  | 2 => .sub
  | 3 => .sbc
  | 4 => .and
  | 5 => .xor
  | 6 => .or
  | _ => .cp

/-- The form that the fields x (7:6), y (5:3) and z (2:0) of an opcode byte select, with `b1` and `b2` the two bytes
after it; none for a byte that matches no pattern of R51. -/
def fieldForm (op b1 b2 : Byte) : Option Form :=
  let x : BitVec 2 := op.extractLsb' 6 2
  let y : BitVec 3 := op.extractLsb' 3 3
  let z : BitVec 3 := op.extractLsb' 0 3
  let p : BitVec 2 := op.extractLsb' 4 2
  let q : Bool := op.getLsbD 3
  let imm16 := wordOf b2 b1
  match x.toNat, z.toNat with
  | 0, 0 => if y = 0 then some .nop else if y = 1 then some (.ldAbsSP imm16) else none
  | 0, 1 =>
    if q then none
    else match RR.ofCode p with
      | some rr => some (.ldPairImm rr imm16)
      | none => some (.ldSPImm imm16)
  | 0, 2 =>
    if y = 0 then some .ldBCA else if y = 2 then some .ldDEA
    else if y = 1 then some .ldABC else if y = 3 then some .ldADE else none
  | 0, 4 => match R8.ofCode y with
    | some r => some (.incReg r)
    | none => some .incHL
  | 0, 5 => match R8.ofCode y with
    | some r => some (.decReg r)
    | none => some .decHL
  | 0, 6 => match R8.ofCode y with
    | some r => some (.ldRegImm r b1)
    | none => some (.ldHLImm b1)
  | 0, 7 =>
    if y = 4 then some .daa else if y = 5 then some .cpl
    else if y = 6 then some .scf else if y = 7 then some .ccf else none
  | 1, _ => match R8.ofCode y, R8.ofCode z with
    | some r, some r2 => some (.ldRegReg r r2)
    | some r, none => some (.ldRegHL r)
    | none, some r => some (.ldHLReg r)
    | none, none => none
  | 2, _ => match R8.ofCode z with
    | some r => some (.aluReg (AluOp.ofCode y) r)
    | none => some (.aluHL (AluOp.ofCode y))
  | 3, 6 => some (.aluImm (AluOp.ofCode y) b1)
  | 3, 1 =>
    if q then (if y = 7 then some .ldSPHL else none)
    else match RR.ofCode p with
      | some rr => some (.pop rr)
      | none => some .popAF
  | 3, 5 =>
    if q then none
    else match RR.ofCode p with
      | some rr => some (.push rr)
      | none => some .pushAF
  | 3, 0 =>
    if y = 4 then some (.ldhAStore b1) else if y = 6 then some (.ldhALoad b1)
    else if y = 7 then some (.ldHLSP b1) else none
  | 3, 2 => if y = 5 then some (.ldAbsA imm16) else if y = 7 then some (.ldAAbs imm16) else none
  | _, _ => none

/-! ## The encoder -/

/-- The opcode byte of an instruction: the `encoding` column of the table (R62). -/
def Instr.opcode : Instr → Byte
  | .nop => 0b00000000
  | .ld_bc_d16 _ => 0b00000001
  | .ld_atBC_a => 0b00000010
  | .inc_b => 0b00000100
  | .dec_b => 0b00000101
  | .ld_b_d8 _ => 0b00000110
  | .ld_atA16_sp _ => 0b00001000
  | .ld_a_atBC => 0b00001010
  | .inc_c => 0b00001100
  | .dec_c => 0b00001101
  | .ld_c_d8 _ => 0b00001110
  | .ld_de_d16 _ => 0b00010001
  | .ld_atDE_a => 0b00010010
  | .inc_d => 0b00010100
  | .dec_d => 0b00010101
  | .ld_d_d8 _ => 0b00010110
  | .ld_a_atDE => 0b00011010
  | .inc_e => 0b00011100
  | .dec_e => 0b00011101
  | .ld_e_d8 _ => 0b00011110
  | .ld_hl_d16 _ => 0b00100001
  | .inc_h => 0b00100100
  | .dec_h => 0b00100101
  | .ld_h_d8 _ => 0b00100110
  | .daa => 0b00100111
  | .inc_l => 0b00101100
  | .dec_l => 0b00101101
  | .ld_l_d8 _ => 0b00101110
  | .cpl => 0b00101111
  | .ld_sp_d16 _ => 0b00110001
  | .inc_atHL => 0b00110100
  | .dec_atHL => 0b00110101
  | .ld_atHL_d8 _ => 0b00110110
  | .scf => 0b00110111
  | .inc_a => 0b00111100
  | .dec_a => 0b00111101
  | .ld_a_d8 _ => 0b00111110
  | .ccf => 0b00111111
  | .ld_b_b => 0b01000000
  | .ld_b_c => 0b01000001
  | .ld_b_d => 0b01000010
  | .ld_b_e => 0b01000011
  | .ld_b_h => 0b01000100
  | .ld_b_l => 0b01000101
  | .ld_b_atHL => 0b01000110
  | .ld_b_a => 0b01000111
  | .ld_c_b => 0b01001000
  | .ld_c_c => 0b01001001
  | .ld_c_d => 0b01001010
  | .ld_c_e => 0b01001011
  | .ld_c_h => 0b01001100
  | .ld_c_l => 0b01001101
  | .ld_c_atHL => 0b01001110
  | .ld_c_a => 0b01001111
  | .ld_d_b => 0b01010000
  | .ld_d_c => 0b01010001
  | .ld_d_d => 0b01010010
  | .ld_d_e => 0b01010011
  | .ld_d_h => 0b01010100
  | .ld_d_l => 0b01010101
  | .ld_d_atHL => 0b01010110
  | .ld_d_a => 0b01010111
  | .ld_e_b => 0b01011000
  | .ld_e_c => 0b01011001
  | .ld_e_d => 0b01011010
  | .ld_e_e => 0b01011011
  | .ld_e_h => 0b01011100
  | .ld_e_l => 0b01011101
  | .ld_e_atHL => 0b01011110
  | .ld_e_a => 0b01011111
  | .ld_h_b => 0b01100000
  | .ld_h_c => 0b01100001
  | .ld_h_d => 0b01100010
  | .ld_h_e => 0b01100011
  | .ld_h_h => 0b01100100
  | .ld_h_l => 0b01100101
  | .ld_h_atHL => 0b01100110
  | .ld_h_a => 0b01100111
  | .ld_l_b => 0b01101000
  | .ld_l_c => 0b01101001
  | .ld_l_d => 0b01101010
  | .ld_l_e => 0b01101011
  | .ld_l_h => 0b01101100
  | .ld_l_l => 0b01101101
  | .ld_l_atHL => 0b01101110
  | .ld_l_a => 0b01101111
  | .ld_atHL_b => 0b01110000
  | .ld_atHL_c => 0b01110001
  | .ld_atHL_d => 0b01110010
  | .ld_atHL_e => 0b01110011
  | .ld_atHL_h => 0b01110100
  | .ld_atHL_l => 0b01110101
  | .ld_atHL_a => 0b01110111
  | .ld_a_b => 0b01111000
  | .ld_a_c => 0b01111001
  | .ld_a_d => 0b01111010
  | .ld_a_e => 0b01111011
  | .ld_a_h => 0b01111100
  | .ld_a_l => 0b01111101
  | .ld_a_atHL => 0b01111110
  | .ld_a_a => 0b01111111
  | .add_a_b => 0b10000000
  | .add_a_c => 0b10000001
  | .add_a_d => 0b10000010
  | .add_a_e => 0b10000011
  | .add_a_h => 0b10000100
  | .add_a_l => 0b10000101
  | .add_a_atHL => 0b10000110
  | .add_a_a => 0b10000111
  | .adc_a_b => 0b10001000
  | .adc_a_c => 0b10001001
  | .adc_a_d => 0b10001010
  | .adc_a_e => 0b10001011
  | .adc_a_h => 0b10001100
  | .adc_a_l => 0b10001101
  | .adc_a_atHL => 0b10001110
  | .adc_a_a => 0b10001111
  | .sub_a_b => 0b10010000
  | .sub_a_c => 0b10010001
  | .sub_a_d => 0b10010010
  | .sub_a_e => 0b10010011
  | .sub_a_h => 0b10010100
  | .sub_a_l => 0b10010101
  | .sub_a_atHL => 0b10010110
  | .sub_a_a => 0b10010111
  | .sbc_a_b => 0b10011000
  | .sbc_a_c => 0b10011001
  | .sbc_a_d => 0b10011010
  | .sbc_a_e => 0b10011011
  | .sbc_a_h => 0b10011100
  | .sbc_a_l => 0b10011101
  | .sbc_a_atHL => 0b10011110
  | .sbc_a_a => 0b10011111
  | .and_a_b => 0b10100000
  | .and_a_c => 0b10100001
  | .and_a_d => 0b10100010
  | .and_a_e => 0b10100011
  | .and_a_h => 0b10100100
  | .and_a_l => 0b10100101
  | .and_a_atHL => 0b10100110
  | .and_a_a => 0b10100111
  | .xor_a_b => 0b10101000
  | .xor_a_c => 0b10101001
  | .xor_a_d => 0b10101010
  | .xor_a_e => 0b10101011
  | .xor_a_h => 0b10101100
  | .xor_a_l => 0b10101101
  | .xor_a_atHL => 0b10101110
  | .xor_a_a => 0b10101111
  | .or_a_b => 0b10110000
  | .or_a_c => 0b10110001
  | .or_a_d => 0b10110010
  | .or_a_e => 0b10110011
  | .or_a_h => 0b10110100
  | .or_a_l => 0b10110101
  | .or_a_atHL => 0b10110110
  | .or_a_a => 0b10110111
  | .cp_a_b => 0b10111000
  | .cp_a_c => 0b10111001
  | .cp_a_d => 0b10111010
  | .cp_a_e => 0b10111011
  | .cp_a_h => 0b10111100
  | .cp_a_l => 0b10111101
  | .cp_a_atHL => 0b10111110
  | .cp_a_a => 0b10111111
  | .pop_bc => 0b11000001
  | .push_bc => 0b11000101
  | .add_a_d8 _ => 0b11000110
  | .adc_a_d8 _ => 0b11001110
  | .pop_de => 0b11010001
  | .push_de => 0b11010101
  | .sub_a_d8 _ => 0b11010110
  | .sbc_a_d8 _ => 0b11011110
  | .ldh_atA8_a _ => 0b11100000
  | .pop_hl => 0b11100001
  | .push_hl => 0b11100101
  | .and_a_d8 _ => 0b11100110
  | .ld_atA16_a _ => 0b11101010
  | .xor_a_d8 _ => 0b11101110
  | .ldh_a_atA8 _ => 0b11110000
  | .pop_af => 0b11110001
  | .push_af => 0b11110101
  | .or_a_d8 _ => 0b11110110
  | .ld_hl_spS8 _ => 0b11111000
  | .ld_sp_hl => 0b11111001
  | .ld_a_atA16 _ => 0b11111010
  | .cp_a_d8 _ => 0b11111110

/-- The bytes of an instruction, in address order (R50). -/
def encode (i : Instr) : List Byte := i.opcode :: i.form.operandBytes

end Sys2Proof
end

