-- ==== Sys2Proof/Machine/State.lean ====
section
/-! DEFINITION. The state of the machine (R10, R30), the reasons a step can stop, and the state after reset
(R25, R191). -/

namespace Sys2Proof.Machine

/-- The memory array `Mem` (R30): the bytes that differ from `Config.powerOnByte`, by address, addresses rising. -/
abbrev Memory := List Host.Cell

/-- The complete machine state: the core's tuple of R10 and `Mem`. -/
structure State where
  /-- `x[A]`, the accumulator. -/
  a : Byte
  /-- `x[F]`, the flags: Z, N, Hf, Cy in bits 7 to 4, bits 3 to 0 zero (R16). -/
  f : Byte
  /-- `x[B]`. -/
  b : Byte
  /-- `x[C]`. -/
  c : Byte
  /-- `x[D]`. -/
  d : Byte
  /-- `x[E]`. -/
  e : Byte
  /-- `x[H]`. -/
  h : Byte
  /-- `x[L]`. -/
  l : Byte
  /-- `SP` (R15). -/
  sp : Word
  /-- `pc` (R14). -/
  pc : Word
  /-- `ime`: no instruction reads or writes it (R18). -/
  ime : Bool
  /-- `halted`: while true a step does nothing (R19, R74). -/
  halted : Bool
  /-- `cycles`, the Timer's count (R20). -/
  cycles : Nat
  /-- The width `CYCW` of `cycles` in bits: R7's OPEN parameter, fixed when the machine is constructed. DESIGN CHOICE:
  it stands in State so that every statement holds for every width (log entry 2); nothing writes it. -/
  cycw : Nat
  /-- `Mem`. -/
  mem : Memory
deriving DecidableEq, Repr

/-- Why a step stops with an error. -/
inductive Fault where
  /-- The exception `UnknownOpcode(op)` of R170, raised by `step` when the byte fetched as an opcode is unmapped
  (R57, R70). `after` is the state the host holds when the step returns: only pc has moved (R172). Safe: the spec's own
  result, with the state it gives. -/
  | unknownOpcode (op : Byte) (after : State)
deriving DecidableEq, Repr

/-- Why an instruction has no meaning. -/
inductive Refusal where
  /-- Raised by an arm of `exec` for an instruction not modelled yet; no arm does. Safe: the model stops. -/
  | notModelled (mnemonic : String)
deriving DecidableEq, Repr

/-- What a meaning answers. -/
abbrev Result := Host.Outcome State Fault Refusal

/-- The machine at power-on: the core's reset values (R25) and all of memory zero (R191), with the default width of
the cycle counter (R7). -/
def State.reset : State where
  a := 0x00
  f := 0x00
  b := 0x00
  c := 0x00
  d := 0x00
  e := 0x00
  h := 0x00
  l := 0x00
  sp := 0xFFFE
  pc := 0x0100
  ime := true
  halted := false
  cycles := 0
  cycw := Config.cycwDefault
  mem := []

end Sys2Proof.Machine
end

