-- ==== Sys2Proof/Machine/Ops.lean ====
section
/-! DEFINITION. The shared operations over memory, registers, pc and the cycle counter, fetching an instruction, and
the one exception. -/

namespace Sys2Proof.Machine

/-! ## The memory array -/

/-- The byte at an address: what is listed there, else the power-on byte (R31, R191). -/
def Memory.read : Memory → Nat → Byte
  | [], _ => Config.powerOnByte
  | (k, v) :: rest, a => if k = a then v else Memory.read rest a

/-- The array without its entries for an address. -/
def Memory.remove : Memory → Nat → Memory
  | [], _ => []
  | (k, v) :: rest, a => if k = a then Memory.remove rest a else (k, v) :: Memory.remove rest a

/-- Put an entry in its place by address. -/
def Memory.put : Memory → Nat → Byte → Memory
  | [], a, v => [(a, v)]
  | (k, w) :: rest, a, v => if a < k then (a, v) :: (k, w) :: rest else (k, w) :: Memory.put rest a v

/-- Store a byte (R32), keeping the canonical form: the power-on byte is not listed. -/
def Memory.write (m : Memory) (a : Nat) (v : Byte) : Memory :=
  if v = Config.powerOnByte then m.remove a else (m.remove a).put a v

/-- Every entry is at `least` or above and below the end of the address space, addresses rise strictly, and no entry
holds the power-on byte. -/
def Memory.wfFrom (least : Nat) : Memory → Bool
  | [] => true
  | (k, v) :: rest =>
    decide (least ≤ k) && decide (k < Config.addressSpace) && decide (v ≠ Config.powerOnByte)
      && Memory.wfFrom (k + 1) rest

/-- The canonical form of memory. -/
def Memory.wf (m : Memory) : Bool := Memory.wfFrom 0 m

/-! ## The bus primitives -/

/-- `MemRead(addr, 1)` (R31). -/
def State.memRead (s : State) (addr : Word) : Byte := s.mem.read addr.toNat

/-- `MemWrite(addr, 1, v)` (R32). -/
def State.memWrite (s : State) (addr : Word) (v : Byte) : State := { s with mem := s.mem.write addr.toNat v }

/-- `MemRead(addr, 2)`: low byte at `addr`, high byte at the next address, which wraps (R33). -/
def State.memRead16 (s : State) (addr : Word) : Word :=
  let lo := s.memRead addr
  let hi := s.memRead (addr + 1)
  wordOf hi lo

/-- `MemWrite(addr, 2, v)`: low byte first, at the lower address (R34). -/
def State.memWrite16 (s : State) (addr : Word) (v : Word) : State :=
  (s.memWrite addr (loByte v)).memWrite (addr + 1) (hiByte v)

/-- Store bytes at consecutive addresses, from `addr` upward. -/
def State.placeBytes (s : State) (addr : Word) : List Byte → State
  | [] => s
  | v :: rest => (s.memWrite addr v).placeBytes (addr + 1) rest

/-! ## Registers -/

/-- `x[r]`. -/
def State.reg (s : State) : Reg → Byte
  | .a => s.a
  | .f => s.f
  | .b => s.b
  | .c => s.c
  | .d => s.d
  | .e => s.e
  | .h => s.h
  | .l => s.l

/-- `x[r] <- v`; a write to F stores `v & 0xF0` (R16). -/
def State.setReg (s : State) (r : Reg) (v : Byte) : State :=
  match r with
  | .a => { s with a := v }
  | .f => { s with f := v &&& 0xF0 }
  | .b => { s with b := v }
  | .c => { s with c := v }
  | .d => { s with d := v }
  | .e => { s with e := v }
  | .h => { s with h := v }
  | .l => { s with l := v }

/-- A register pair as a 16-bit value, high byte first-named (R12). -/
def State.pair (s : State) (p : Pair) : Word := wordOf (s.reg p.hi) (s.reg p.lo)

/-- Write a pair: the low byte, then the high byte (R12, R100). -/
def State.setPair (s : State) (p : Pair) (v : Word) : State :=
  (s.setReg p.lo (loByte v)).setReg p.hi (hiByte v)

/-- `SP <- v` (R15). -/
def State.setSp (s : State) (v : Word) : State := { s with sp := v }

/-- `pc <- target` (R14). -/
def State.setPc (s : State) (v : Word) : State := { s with pc := v }

/-! ## The stack (R103 to R106) -/

/-- Push a pair: pre-decrement and store the high byte, then pre-decrement and store the low byte (R103, R104). -/
def push (p : Pair) (s : State) : State :=
  let s1 := s.setSp (s.sp - 1)
  let s2 := s1.memWrite s1.sp (s1.reg p.hi)
  let s3 := s2.setSp (s2.sp - 1)
  s3.memWrite s3.sp (s3.reg p.lo)

/-- Pop a pair: load the low byte and post-increment, then load the high byte and post-increment (R105, R106). -/
def pop (p : Pair) (s : State) : State :=
  let s1 := s.setReg p.lo (s.memRead s.sp)
  let s2 := s1.setSp (s1.sp + 1)
  let s3 := s2.setReg p.hi (s2.memRead s2.sp)
  s3.setSp (s3.sp + 1)

/-- `(SP + sext_16(d)) mod 65536` (R108). -/
def spPlus (s : State) (d : Byte) : Word := s.sp + sext16 d

/-! ## The Timer -/

/-- `AddCycles(c, n)` (R180): saturating at `2^CYCW - 1`. -/
def addCycles (cycw c n : Nat) : Nat := min (c + n) (2 ^ cycw - 1)

/-- The cycle charge of R73. -/
def State.charge (s : State) (n : Nat) : State := { s with cycles := addCycles s.cycw s.cycles n }

/-- Charge the cost of an instruction after its own effects (R70, R73). -/
def chargeAfter (cost : Nat) : Result → Result
  | .next s => .next (s.charge cost)
  | .fault r => .fault r
  | .refused r => .refused r

/-! ## The exception -/

/-- Taking the exception `UnknownOpcode(op)`: the step returns it to the host, with the state as the opcode fetch left
it; nothing else is saved or changed (R170 to R172, R176). -/
def raiseUnknownOpcode (op : Byte) (s : State) : Fault := .unknownOpcode op s

/-- After the exception: there is no return instruction and nothing to restore; the host goes on, if it does, from the
state the step left (R177, "skip"). -/
def Fault.resume : Fault → State
  | .unknownOpcode _ after => after

/-! ## Fetching -/

/-- `Fetch8()` (R71). -/
def fetch8 (s : State) : Byte × State := (s.memRead s.pc, s.setPc (s.pc + 1))

/-- `Fetch16()`: the low byte first (R71). -/
def fetch16 (s : State) : Word × State :=
  let (lo, s1) := fetch8 s
  let (hi, s2) := fetch8 s1
  (wordOf hi lo, s2)

/-- Fetch one instruction: the opcode, its look-up in the Dispatch Table, and its immediate bytes in address order
(R70, R71, R44). The state answered has pc past the instruction. -/
def fetchInstr (s : State) : Except Fault (Instr × State) :=
  let (op, s1) := fetch8 s
  match dispatchEntry op with
  | none => .error (raiseUnknownOpcode op s1)
  | some (.f1 i) => .ok (i, s1)
  | some (.f2 mk) =>
    let (v, s2) := fetch8 s1
    .ok (mk v, s2)
  | some (.f3 mk) =>
    let (v, s2) := fetch16 s1
    .ok (mk v, s2)

/-- The bytes of memory from `addr` upward: what a decoder is given to read an instruction there. -/
def State.bytesAt (s : State) (addr : Word) : Nat → List Byte
  | 0 => []
  | n + 1 => s.memRead addr :: s.bytesAt (addr + 1) n

end Sys2Proof.Machine
end

