-- ==== Sys2Proof/Machine/Flags.lean ====
section
/-! DEFINITION. The flag register (R16) and every result and flag computation of 43_alu_8bit.md (R121 to R124, R129). -/

namespace Sys2Proof.Machine

/-! ## The flag bits -/

/-- F with the four flags given: bit 7 Z, bit 6 N, bit 5 Hf, bit 4 Cy, bits 3 to 0 zero (R16). -/
def flagsByte (z n hf cy : Bool) : Byte :=
  BitVec.ofBool z ++ BitVec.ofBool n ++ BitVec.ofBool hf ++ BitVec.ofBool cy ++ 0#4

/-- `Z`, bit 7 of F. -/
def State.flagZ (s : State) : Bool := s.f.getLsbD 7

/-- `N`, bit 6 of F. -/
def State.flagN (s : State) : Bool := s.f.getLsbD 6

/-- `Hf`, bit 5 of F. -/
def State.flagH (s : State) : Bool := s.f.getLsbD 5

/-- `Cy`, bit 4 of F. -/
def State.flagC (s : State) : Bool := s.f.getLsbD 4

/-- Write the four flags; a flag an instruction keeps is given its old value. -/
def State.setFlags (s : State) (z n hf cy : Bool) : State := s.setReg .f (flagsByte z n hf cy)

/-! ## Results and flags -/

/-- An 8-bit result with the four flags. -/
structure AluResult where
  res : Byte
  z : Bool
  n : Bool
  hf : Bool
  cy : Bool
deriving DecidableEq, Repr

/-- `Add8(a, v, cin)` (R121). -/
def add8 (a v : Byte) (cin : Bool) : AluResult :=
  let t := a.toNat + v.toNat + cin.toNat
  let res := BitVec.ofNat 8 t
  { res := res
    z := res == 0
    n := false
    hf := decide (a.toNat % 16 + v.toNat % 16 + cin.toNat ≥ 16)
    cy := decide (t ≥ 256) }

/-- `Sub8(a, v, cin)` (R122). -/
def sub8 (a v : Byte) (cin : Bool) : AluResult :=
  let t : Int := (a.toNat : Int) - (v.toNat : Int) - (cin.toNat : Int)
  let res := BitVec.ofInt 8 t
  { res := res
    z := res == 0
    n := true
    hf := decide (((a.toNat % 16 : Nat) : Int) - ((v.toNat % 16 : Nat) : Int) - (cin.toNat : Int) < 0)
    cy := decide (t < 0) }

/-- The logic operations' flags (R123): `hf` is set by AND only. -/
def logic8 (res : Byte) (hf : Bool) : AluResult :=
  { res := res, z := res == 0, n := false, hf := hf, cy := false }

/-- `Inc8(v)` (R124); Cy is kept. -/
def inc8 (v : Byte) (cy : Bool) : AluResult :=
  let res := v + 1
  { res := res, z := res == 0, n := false, hf := res.toNat % 16 == 0, cy := cy }

/-- `Dec8(v)` (R124); Cy is kept. -/
def dec8 (v : Byte) (cy : Bool) : AluResult :=
  let res := v - 1
  { res := res, z := res == 0, n := true, hf := res.toNat % 16 == 15, cy := cy }

/-- `Daa` (R129): both tests of the addition branch use A from before the adjustment; N is kept. -/
def daa8 (a : Byte) (n hf cy : Bool) : AluResult :=
  let high := cy || (!n && decide (a.toNat > 0x99))
  let low := hf || (!n && decide (a.toNat % 16 > 9))
  let adj : Byte := (if high then 0x60 else 0x00) ||| (if low then 0x06 else 0x00)
  let res := if n then a - adj else a + adj
  { res := res, z := res == 0, n := n, hf := false, cy := high }

/-- The result and the flags of an accumulator operation on A, its operand and the old Cy (R121 to R123). -/
def aluResult (op : AluOp) (a v : Byte) (cy : Bool) : AluResult :=
  match op with
  | .add => add8 a v false
  | .adc => add8 a v cy
  | .sub => sub8 a v false
  | .sbc => sub8 a v cy
  | .and => logic8 (a &&& v) true
  | .xor => logic8 (a ^^^ v) false
  | .or => logic8 (a ||| v) false
  | .cp => sub8 a v false

/-- Whether an accumulator operation writes A: all but `CP` (R154). -/
def aluWritesA (op : AluOp) : Bool :=
  match op with
  | .add => true
  | .adc => true
  | .sub => true
  | .sbc => true
  | .and => true
  | .xor => true
  | .or => true
  | .cp => false

/-- Write the four flags of a result. -/
def State.setFlagsOf (s : State) (r : AluResult) : State := s.setFlags r.z r.n r.hf r.cy

end Sys2Proof.Machine
end

