-- ==== Sys2Proof/Machine/Operands.lean ====
section
/-! DEFINITION. The operand forms: the places an 8-bit operand can be read from or written to (R56, R59), and the
8-bit load that every instruction of 41_load_store_8bit.md is. -/

namespace Sys2Proof.Machine

/-- A place that holds a byte. -/
inductive Loc
  /-- A register. -/
  | reg (r : Reg)
  /-- `(rr)`: the memory byte at the address in a pair. -/
  | atPair (p : Pair)
  /-- `(a8)` of `LDH`: the memory byte at `0xFF00 + a8` (R39). -/
  | zeroPage (a8 : Byte)
  /-- `(a16)`: the memory byte at an absolute address. -/
  | absolute (a16 : Word)
deriving DecidableEq, Repr

/-- A source of a byte: a place or an immediate. -/
inductive Src
  | loc (p : Loc)
  | imm (v : Byte)
deriving DecidableEq, Repr

/-- `0xFF00 + zext_16(a8)` (R39). -/
def zeroPageAddr (a8 : Byte) : Word := 0xFF00 + zext16 a8

/-- The memory address of a place, none for a register. -/
def Loc.addr (p : Loc) (s : State) : Option Word :=
  match p with
  | .reg _ => none
  | .atPair rr => some (s.pair rr)
  | .zeroPage a8 => some (zeroPageAddr a8)
  | .absolute a16 => some a16

/-- Read the byte at a place. -/
def Loc.read (p : Loc) (s : State) : Byte :=
  match p with
  | .reg r => s.reg r
  | .atPair rr => s.memRead (s.pair rr)
  | .zeroPage a8 => s.memRead (zeroPageAddr a8)
  | .absolute a16 => s.memRead a16

/-- Write the byte at a place. -/
def Loc.write (p : Loc) (v : Byte) (s : State) : State :=
  match p with
  | .reg r => s.setReg r v
  | .atPair rr => s.memWrite (s.pair rr) v
  | .zeroPage a8 => s.memWrite (zeroPageAddr a8) v
  | .absolute a16 => s.memWrite a16 v

/-- The value of a source. -/
def Src.read (x : Src) (s : State) : Byte :=
  match x with
  | .loc p => p.read s
  | .imm v => v

/-- Copy a byte from a source to a place; no flag is written (R93). -/
def load8 (dst : Loc) (src : Src) (s : State) : State := dst.write (src.read s) s

end Sys2Proof.Machine
end

