-- ==== Sys2Proof/Machine/Alu8.lean ====
section
/-! DEFINITION. The 8-bit arithmetic and logic instructions (43_alu_8bit.md). -/

namespace Sys2Proof.Machine

/-- An accumulator operation: the operand is read before A or F is written (R120). -/
def aluA (op : AluOp) (src : Src) (s : State) : State :=
  let r := aluResult op s.a (src.read s) s.flagC
  let s1 := if aluWritesA op then s.setReg .a r.res else s
  s1.setFlagsOf r

/-- `INC` of a register or of the byte at (HL): Z, N, Hf written, Cy kept (R125, R126). -/
def incLoc (p : Loc) (s : State) : State :=
  let r := inc8 (p.read s) s.flagC
  (p.write r.res s).setFlagsOf r

/-- `DEC` of a register or of the byte at (HL): Z, N, Hf written, Cy kept (R127, R128). -/
def decLoc (p : Loc) (s : State) : State :=
  let r := dec8 (p.read s) s.flagC
  (p.write r.res s).setFlagsOf r

/-- The effect of `DAA` (R129): Z, Hf, Cy written, N kept. -/
def adjustA (s : State) : State :=
  let r := daa8 s.a s.flagN s.flagH s.flagC
  (s.setReg .a r.res).setFlagsOf r

/-- The effect of `SCF` (R130): N, Hf, Cy written, Z kept. -/
def setCarry (s : State) : State := s.setFlags s.flagZ false false true

/-- The effect of `CPL` (R131): N and Hf written, Z and Cy kept. -/
def complementA (s : State) : State := (s.setReg .a (s.a ^^^ 0xFF)).setFlags s.flagZ true true s.flagC

/-- The effect of `CCF` (R132): N, Hf, Cy written, Z kept. -/
def complementCarry (s : State) : State := s.setFlags s.flagZ false false (!s.flagC)

/-- `INC B` (R125). -/
def exec_inc_b (s : State) : Result :=
  .next (incLoc (.reg .b) s)

/-- `DEC B` (R127). -/
def exec_dec_b (s : State) : Result :=
  .next (decLoc (.reg .b) s)

/-- `INC C` (R125). -/
def exec_inc_c (s : State) : Result :=
  .next (incLoc (.reg .c) s)

/-- `DEC C` (R127). -/
def exec_dec_c (s : State) : Result :=
  .next (decLoc (.reg .c) s)

/-- `INC D` (R125). -/
def exec_inc_d (s : State) : Result :=
  .next (incLoc (.reg .d) s)

/-- `DEC D` (R127). -/
def exec_dec_d (s : State) : Result :=
  .next (decLoc (.reg .d) s)

/-- `INC E` (R125). -/
def exec_inc_e (s : State) : Result :=
  .next (incLoc (.reg .e) s)

/-- `DEC E` (R127). -/
def exec_dec_e (s : State) : Result :=
  .next (decLoc (.reg .e) s)

/-- `INC H` (R125). -/
def exec_inc_h (s : State) : Result :=
  .next (incLoc (.reg .h) s)

/-- `DEC H` (R127). -/
def exec_dec_h (s : State) : Result :=
  .next (decLoc (.reg .h) s)

/-- `DAA` (R129). -/
def exec_daa (s : State) : Result :=
  .next (adjustA s)

/-- `INC L` (R125). -/
def exec_inc_l (s : State) : Result :=
  .next (incLoc (.reg .l) s)

/-- `DEC L` (R127). -/
def exec_dec_l (s : State) : Result :=
  .next (decLoc (.reg .l) s)

/-- `CPL` (R131). -/
def exec_cpl (s : State) : Result :=
  .next (complementA s)

/-- `INC (HL)` (R126). -/
def exec_inc_atHL (s : State) : Result :=
  .next (incLoc (.atPair .hl) s)

/-- `DEC (HL)` (R128). -/
def exec_dec_atHL (s : State) : Result :=
  .next (decLoc (.atPair .hl) s)

/-- `SCF` (R130). -/
def exec_scf (s : State) : Result :=
  .next (setCarry s)

/-- `INC A` (R125). -/
def exec_inc_a (s : State) : Result :=
  .next (incLoc (.reg .a) s)

/-- `DEC A` (R127). -/
def exec_dec_a (s : State) : Result :=
  .next (decLoc (.reg .a) s)

/-- `CCF` (R132). -/
def exec_ccf (s : State) : Result :=
  .next (complementCarry s)

/-- `ADD A,B` (R133). -/
def exec_add_a_b (s : State) : Result :=
  .next (aluA .add (.loc (.reg .b)) s)

/-- `ADD A,C` (R133). -/
def exec_add_a_c (s : State) : Result :=
  .next (aluA .add (.loc (.reg .c)) s)

/-- `ADD A,D` (R133). -/
def exec_add_a_d (s : State) : Result :=
  .next (aluA .add (.loc (.reg .d)) s)

/-- `ADD A,E` (R133). -/
def exec_add_a_e (s : State) : Result :=
  .next (aluA .add (.loc (.reg .e)) s)

/-- `ADD A,H` (R133). -/
def exec_add_a_h (s : State) : Result :=
  .next (aluA .add (.loc (.reg .h)) s)

/-- `ADD A,L` (R133). -/
def exec_add_a_l (s : State) : Result :=
  .next (aluA .add (.loc (.reg .l)) s)

/-- `ADD A,(HL)` (R134). -/
def exec_add_a_atHL (s : State) : Result :=
  .next (aluA .add (.loc (.atPair .hl)) s)

/-- `ADD A,A` (R133). -/
def exec_add_a_a (s : State) : Result :=
  .next (aluA .add (.loc (.reg .a)) s)

/-- `ADC A,B` (R136). -/
def exec_adc_a_b (s : State) : Result :=
  .next (aluA .adc (.loc (.reg .b)) s)

/-- `ADC A,C` (R136). -/
def exec_adc_a_c (s : State) : Result :=
  .next (aluA .adc (.loc (.reg .c)) s)

/-- `ADC A,D` (R136). -/
def exec_adc_a_d (s : State) : Result :=
  .next (aluA .adc (.loc (.reg .d)) s)

/-- `ADC A,E` (R136). -/
def exec_adc_a_e (s : State) : Result :=
  .next (aluA .adc (.loc (.reg .e)) s)

/-- `ADC A,H` (R136). -/
def exec_adc_a_h (s : State) : Result :=
  .next (aluA .adc (.loc (.reg .h)) s)

/-- `ADC A,L` (R136). -/
def exec_adc_a_l (s : State) : Result :=
  .next (aluA .adc (.loc (.reg .l)) s)

/-- `ADC A,(HL)` (R137). -/
def exec_adc_a_atHL (s : State) : Result :=
  .next (aluA .adc (.loc (.atPair .hl)) s)

/-- `ADC A,A` (R136). -/
def exec_adc_a_a (s : State) : Result :=
  .next (aluA .adc (.loc (.reg .a)) s)

/-- `SUB A,B` (R139). -/
def exec_sub_a_b (s : State) : Result :=
  .next (aluA .sub (.loc (.reg .b)) s)

/-- `SUB A,C` (R139). -/
def exec_sub_a_c (s : State) : Result :=
  .next (aluA .sub (.loc (.reg .c)) s)

/-- `SUB A,D` (R139). -/
def exec_sub_a_d (s : State) : Result :=
  .next (aluA .sub (.loc (.reg .d)) s)

/-- `SUB A,E` (R139). -/
def exec_sub_a_e (s : State) : Result :=
  .next (aluA .sub (.loc (.reg .e)) s)

/-- `SUB A,H` (R139). -/
def exec_sub_a_h (s : State) : Result :=
  .next (aluA .sub (.loc (.reg .h)) s)

/-- `SUB A,L` (R139). -/
def exec_sub_a_l (s : State) : Result :=
  .next (aluA .sub (.loc (.reg .l)) s)

/-- `SUB A,(HL)` (R140). -/
def exec_sub_a_atHL (s : State) : Result :=
  .next (aluA .sub (.loc (.atPair .hl)) s)

/-- `SUB A,A` (R139). -/
def exec_sub_a_a (s : State) : Result :=
  .next (aluA .sub (.loc (.reg .a)) s)

/-- `SBC A,B` (R142). -/
def exec_sbc_a_b (s : State) : Result :=
  .next (aluA .sbc (.loc (.reg .b)) s)

/-- `SBC A,C` (R142). -/
def exec_sbc_a_c (s : State) : Result :=
  .next (aluA .sbc (.loc (.reg .c)) s)

/-- `SBC A,D` (R142). -/
def exec_sbc_a_d (s : State) : Result :=
  .next (aluA .sbc (.loc (.reg .d)) s)

/-- `SBC A,E` (R142). -/
def exec_sbc_a_e (s : State) : Result :=
  .next (aluA .sbc (.loc (.reg .e)) s)

/-- `SBC A,H` (R142). -/
def exec_sbc_a_h (s : State) : Result :=
  .next (aluA .sbc (.loc (.reg .h)) s)

/-- `SBC A,L` (R142). -/
def exec_sbc_a_l (s : State) : Result :=
  .next (aluA .sbc (.loc (.reg .l)) s)

/-- `SBC A,(HL)` (R143). -/
def exec_sbc_a_atHL (s : State) : Result :=
  .next (aluA .sbc (.loc (.atPair .hl)) s)

/-- `SBC A,A` (R142). -/
def exec_sbc_a_a (s : State) : Result :=
  .next (aluA .sbc (.loc (.reg .a)) s)

/-- `AND A,B` (R145). -/
def exec_and_a_b (s : State) : Result :=
  .next (aluA .and (.loc (.reg .b)) s)

/-- `AND A,C` (R145). -/
def exec_and_a_c (s : State) : Result :=
  .next (aluA .and (.loc (.reg .c)) s)

/-- `AND A,D` (R145). -/
def exec_and_a_d (s : State) : Result :=
  .next (aluA .and (.loc (.reg .d)) s)

/-- `AND A,E` (R145). -/
def exec_and_a_e (s : State) : Result :=
  .next (aluA .and (.loc (.reg .e)) s)

/-- `AND A,H` (R145). -/
def exec_and_a_h (s : State) : Result :=
  .next (aluA .and (.loc (.reg .h)) s)

/-- `AND A,L` (R145). -/
def exec_and_a_l (s : State) : Result :=
  .next (aluA .and (.loc (.reg .l)) s)

/-- `AND A,(HL)` (R146). -/
def exec_and_a_atHL (s : State) : Result :=
  .next (aluA .and (.loc (.atPair .hl)) s)

/-- `AND A,A` (R145). -/
def exec_and_a_a (s : State) : Result :=
  .next (aluA .and (.loc (.reg .a)) s)

/-- `XOR A,B` (R148). -/
def exec_xor_a_b (s : State) : Result :=
  .next (aluA .xor (.loc (.reg .b)) s)

/-- `XOR A,C` (R148). -/
def exec_xor_a_c (s : State) : Result :=
  .next (aluA .xor (.loc (.reg .c)) s)

/-- `XOR A,D` (R148). -/
def exec_xor_a_d (s : State) : Result :=
  .next (aluA .xor (.loc (.reg .d)) s)

/-- `XOR A,E` (R148). -/
def exec_xor_a_e (s : State) : Result :=
  .next (aluA .xor (.loc (.reg .e)) s)

/-- `XOR A,H` (R148). -/
def exec_xor_a_h (s : State) : Result :=
  .next (aluA .xor (.loc (.reg .h)) s)

/-- `XOR A,L` (R148). -/
def exec_xor_a_l (s : State) : Result :=
  .next (aluA .xor (.loc (.reg .l)) s)

/-- `XOR A,(HL)` (R149). -/
def exec_xor_a_atHL (s : State) : Result :=
  .next (aluA .xor (.loc (.atPair .hl)) s)

/-- `XOR A,A` (R148). -/
def exec_xor_a_a (s : State) : Result :=
  .next (aluA .xor (.loc (.reg .a)) s)

/-- `OR A,B` (R151). -/
def exec_or_a_b (s : State) : Result :=
  .next (aluA .or (.loc (.reg .b)) s)

/-- `OR A,C` (R151). -/
def exec_or_a_c (s : State) : Result :=
  .next (aluA .or (.loc (.reg .c)) s)

/-- `OR A,D` (R151). -/
def exec_or_a_d (s : State) : Result :=
  .next (aluA .or (.loc (.reg .d)) s)

/-- `OR A,E` (R151). -/
def exec_or_a_e (s : State) : Result :=
  .next (aluA .or (.loc (.reg .e)) s)

/-- `OR A,H` (R151). -/
def exec_or_a_h (s : State) : Result :=
  .next (aluA .or (.loc (.reg .h)) s)

/-- `OR A,L` (R151). -/
def exec_or_a_l (s : State) : Result :=
  .next (aluA .or (.loc (.reg .l)) s)

/-- `OR A,(HL)` (R152). -/
def exec_or_a_atHL (s : State) : Result :=
  .next (aluA .or (.loc (.atPair .hl)) s)

/-- `OR A,A` (R151). -/
def exec_or_a_a (s : State) : Result :=
  .next (aluA .or (.loc (.reg .a)) s)

/-- `CP A,B` (R154). -/
def exec_cp_a_b (s : State) : Result :=
  .next (aluA .cp (.loc (.reg .b)) s)

/-- `CP A,C` (R154). -/
def exec_cp_a_c (s : State) : Result :=
  .next (aluA .cp (.loc (.reg .c)) s)

/-- `CP A,D` (R154). -/
def exec_cp_a_d (s : State) : Result :=
  .next (aluA .cp (.loc (.reg .d)) s)

/-- `CP A,E` (R154). -/
def exec_cp_a_e (s : State) : Result :=
  .next (aluA .cp (.loc (.reg .e)) s)

/-- `CP A,H` (R154). -/
def exec_cp_a_h (s : State) : Result :=
  .next (aluA .cp (.loc (.reg .h)) s)

/-- `CP A,L` (R154). -/
def exec_cp_a_l (s : State) : Result :=
  .next (aluA .cp (.loc (.reg .l)) s)

/-- `CP A,(HL)` (R155). -/
def exec_cp_a_atHL (s : State) : Result :=
  .next (aluA .cp (.loc (.atPair .hl)) s)

/-- `CP A,A` (R154). -/
def exec_cp_a_a (s : State) : Result :=
  .next (aluA .cp (.loc (.reg .a)) s)

/-- `ADD A,d8` (R135). -/
def exec_add_a_d8 (d8 : Byte) (s : State) : Result :=
  .next (aluA .add (.imm d8) s)

/-- `ADC A,d8` (R138). -/
def exec_adc_a_d8 (d8 : Byte) (s : State) : Result :=
  .next (aluA .adc (.imm d8) s)

/-- `SUB A,d8` (R141). -/
def exec_sub_a_d8 (d8 : Byte) (s : State) : Result :=
  .next (aluA .sub (.imm d8) s)

/-- `SBC A,d8` (R144). -/
def exec_sbc_a_d8 (d8 : Byte) (s : State) : Result :=
  .next (aluA .sbc (.imm d8) s)

/-- `AND A,d8` (R147). -/
def exec_and_a_d8 (d8 : Byte) (s : State) : Result :=
  .next (aluA .and (.imm d8) s)

/-- `XOR A,d8` (R150). -/
def exec_xor_a_d8 (d8 : Byte) (s : State) : Result :=
  .next (aluA .xor (.imm d8) s)

/-- `OR A,d8` (R153). -/
def exec_or_a_d8 (d8 : Byte) (s : State) : Result :=
  .next (aluA .or (.imm d8) s)

/-- `CP A,d8` (R156). -/
def exec_cp_a_d8 (d8 : Byte) (s : State) : Result :=
  .next (aluA .cp (.imm d8) s)

end Sys2Proof.Machine
end

