-- ==== Sys2Proof/Machine/Control.lean ====
section
/-! DEFINITION. `NOP` (40_execution_step.md). There are no control-transfer and no system instructions (R76, R77). -/

namespace Sys2Proof.Machine

/-- `NOP` (R75). -/
def exec_nop (s : State) : Result :=
  .next s

end Sys2Proof.Machine
end

