-- ==== Sys2Proof/Machine/Load16.lean ====
section
/-! DEFINITION. The 16-bit load, store and stack instructions (42_load_store_16bit_stack.md). None but `POP AF` writes
F (R110). -/

namespace Sys2Proof.Machine

/-- `LD BC,d16` (R100). -/
def exec_ld_bc_d16 (d16 : Word) (s : State) : Result :=
  .next (s.setPair .bc d16)

/-- `LD (a16),SP` (R102). -/
def exec_ld_atA16_sp (a16 : Word) (s : State) : Result :=
  .next (s.memWrite16 a16 s.sp)

/-- `LD DE,d16` (R100). -/
def exec_ld_de_d16 (d16 : Word) (s : State) : Result :=
  .next (s.setPair .de d16)

/-- `LD HL,d16` (R100). -/
def exec_ld_hl_d16 (d16 : Word) (s : State) : Result :=
  .next (s.setPair .hl d16)

/-- `LD SP,d16` (R101). -/
def exec_ld_sp_d16 (d16 : Word) (s : State) : Result :=
  .next (s.setSp d16)

/-- `POP BC` (R105). -/
def exec_pop_bc (s : State) : Result :=
  .next (pop .bc s)

/-- `PUSH BC` (R103). -/
def exec_push_bc (s : State) : Result :=
  .next (push .bc s)

/-- `POP DE` (R105). -/
def exec_pop_de (s : State) : Result :=
  .next (pop .de s)

/-- `PUSH DE` (R103). -/
def exec_push_de (s : State) : Result :=
  .next (push .de s)

/-- `POP HL` (R105). -/
def exec_pop_hl (s : State) : Result :=
  .next (pop .hl s)

/-- `PUSH HL` (R103). -/
def exec_push_hl (s : State) : Result :=
  .next (push .hl s)

/-- `POP AF` (R106). -/
def exec_pop_af (s : State) : Result :=
  .next (pop .af s)

/-- `PUSH AF` (R104). -/
def exec_push_af (s : State) : Result :=
  .next (push .af s)

/-- `LD HL,SP+s8` (R108). -/
def exec_ld_hl_spS8 (s8 : Byte) (s : State) : Result :=
  .next (s.setPair .hl (spPlus s s8))

/-- `LD SP,HL` (R107). -/
def exec_ld_sp_hl (s : State) : Result :=
  .next (s.setSp (s.pair .hl))

end Sys2Proof.Machine
end

