-- ==== Sys2Proof/Machine/Load8.lean ====
section
/-! DEFINITION. The 8-bit load and store instructions (41_load_store_8bit.md). -/

namespace Sys2Proof.Machine

/-- `LD (BC),A` (R87). -/
def exec_ld_atBC_a (s : State) : Result :=
  .next (load8 (.atPair .bc) (.loc (.reg .a)) s)

/-- `LD B,d8` (R83). -/
def exec_ld_b_d8 (d8 : Byte) (s : State) : Result :=
  .next (load8 (.reg .b) (.imm d8) s)

/-- `LD A,(BC)` (R85). -/
def exec_ld_a_atBC (s : State) : Result :=
  .next (load8 (.reg .a) (.loc (.atPair .bc)) s)

/-- `LD C,d8` (R83). -/
def exec_ld_c_d8 (d8 : Byte) (s : State) : Result :=
  .next (load8 (.reg .c) (.imm d8) s)

/-- `LD (DE),A` (R88). -/
def exec_ld_atDE_a (s : State) : Result :=
  .next (load8 (.atPair .de) (.loc (.reg .a)) s)

/-- `LD D,d8` (R83). -/
def exec_ld_d_d8 (d8 : Byte) (s : State) : Result :=
  .next (load8 (.reg .d) (.imm d8) s)

/-- `LD A,(DE)` (R86). -/
def exec_ld_a_atDE (s : State) : Result :=
  .next (load8 (.reg .a) (.loc (.atPair .de)) s)

/-- `LD E,d8` (R83). -/
def exec_ld_e_d8 (d8 : Byte) (s : State) : Result :=
  .next (load8 (.reg .e) (.imm d8) s)

/-- `LD H,d8` (R83). -/
def exec_ld_h_d8 (d8 : Byte) (s : State) : Result :=
  .next (load8 (.reg .h) (.imm d8) s)

/-- `LD L,d8` (R83). -/
def exec_ld_l_d8 (d8 : Byte) (s : State) : Result :=
  .next (load8 (.reg .l) (.imm d8) s)

/-- `LD (HL),d8` (R84). -/
def exec_ld_atHL_d8 (d8 : Byte) (s : State) : Result :=
  .next (load8 (.atPair .hl) (.imm d8) s)

/-- `LD A,d8` (R83). -/
def exec_ld_a_d8 (d8 : Byte) (s : State) : Result :=
  .next (load8 (.reg .a) (.imm d8) s)

/-- `LD B,B` (R80). -/
def exec_ld_b_b (s : State) : Result :=
  .next (load8 (.reg .b) (.loc (.reg .b)) s)

/-- `LD B,C` (R80). -/
def exec_ld_b_c (s : State) : Result :=
  .next (load8 (.reg .b) (.loc (.reg .c)) s)

/-- `LD B,D` (R80). -/
def exec_ld_b_d (s : State) : Result :=
  .next (load8 (.reg .b) (.loc (.reg .d)) s)

/-- `LD B,E` (R80). -/
def exec_ld_b_e (s : State) : Result :=
  .next (load8 (.reg .b) (.loc (.reg .e)) s)

/-- `LD B,H` (R80). -/
def exec_ld_b_h (s : State) : Result :=
  .next (load8 (.reg .b) (.loc (.reg .h)) s)

/-- `LD B,L` (R80). -/
def exec_ld_b_l (s : State) : Result :=
  .next (load8 (.reg .b) (.loc (.reg .l)) s)

/-- `LD B,(HL)` (R81). -/
def exec_ld_b_atHL (s : State) : Result :=
  .next (load8 (.reg .b) (.loc (.atPair .hl)) s)

/-- `LD B,A` (R80). -/
def exec_ld_b_a (s : State) : Result :=
  .next (load8 (.reg .b) (.loc (.reg .a)) s)

/-- `LD C,B` (R80). -/
def exec_ld_c_b (s : State) : Result :=
  .next (load8 (.reg .c) (.loc (.reg .b)) s)

/-- `LD C,C` (R80). -/
def exec_ld_c_c (s : State) : Result :=
  .next (load8 (.reg .c) (.loc (.reg .c)) s)

/-- `LD C,D` (R80). -/
def exec_ld_c_d (s : State) : Result :=
  .next (load8 (.reg .c) (.loc (.reg .d)) s)

/-- `LD C,E` (R80). -/
def exec_ld_c_e (s : State) : Result :=
  .next (load8 (.reg .c) (.loc (.reg .e)) s)

/-- `LD C,H` (R80). -/
def exec_ld_c_h (s : State) : Result :=
  .next (load8 (.reg .c) (.loc (.reg .h)) s)

/-- `LD C,L` (R80). -/
def exec_ld_c_l (s : State) : Result :=
  .next (load8 (.reg .c) (.loc (.reg .l)) s)

/-- `LD C,(HL)` (R81). -/
def exec_ld_c_atHL (s : State) : Result :=
  .next (load8 (.reg .c) (.loc (.atPair .hl)) s)

/-- `LD C,A` (R80). -/
def exec_ld_c_a (s : State) : Result :=
  .next (load8 (.reg .c) (.loc (.reg .a)) s)

/-- `LD D,B` (R80). -/
def exec_ld_d_b (s : State) : Result :=
  .next (load8 (.reg .d) (.loc (.reg .b)) s)

/-- `LD D,C` (R80). -/
def exec_ld_d_c (s : State) : Result :=
  .next (load8 (.reg .d) (.loc (.reg .c)) s)

/-- `LD D,D` (R80). -/
def exec_ld_d_d (s : State) : Result :=
  .next (load8 (.reg .d) (.loc (.reg .d)) s)

/-- `LD D,E` (R80). -/
def exec_ld_d_e (s : State) : Result :=
  .next (load8 (.reg .d) (.loc (.reg .e)) s)

/-- `LD D,H` (R80). -/
def exec_ld_d_h (s : State) : Result :=
  .next (load8 (.reg .d) (.loc (.reg .h)) s)

/-- `LD D,L` (R80). -/
def exec_ld_d_l (s : State) : Result :=
  .next (load8 (.reg .d) (.loc (.reg .l)) s)

/-- `LD D,(HL)` (R81). -/
def exec_ld_d_atHL (s : State) : Result :=
  .next (load8 (.reg .d) (.loc (.atPair .hl)) s)

/-- `LD D,A` (R80). -/
def exec_ld_d_a (s : State) : Result :=
  .next (load8 (.reg .d) (.loc (.reg .a)) s)

/-- `LD E,B` (R80). -/
def exec_ld_e_b (s : State) : Result :=
  .next (load8 (.reg .e) (.loc (.reg .b)) s)

/-- `LD E,C` (R80). -/
def exec_ld_e_c (s : State) : Result :=
  .next (load8 (.reg .e) (.loc (.reg .c)) s)

/-- `LD E,D` (R80). -/
def exec_ld_e_d (s : State) : Result :=
  .next (load8 (.reg .e) (.loc (.reg .d)) s)

/-- `LD E,E` (R80). -/
def exec_ld_e_e (s : State) : Result :=
  .next (load8 (.reg .e) (.loc (.reg .e)) s)

/-- `LD E,H` (R80). -/
def exec_ld_e_h (s : State) : Result :=
  .next (load8 (.reg .e) (.loc (.reg .h)) s)

/-- `LD E,L` (R80). -/
def exec_ld_e_l (s : State) : Result :=
  .next (load8 (.reg .e) (.loc (.reg .l)) s)

/-- `LD E,(HL)` (R81). -/
def exec_ld_e_atHL (s : State) : Result :=
  .next (load8 (.reg .e) (.loc (.atPair .hl)) s)

/-- `LD E,A` (R80). -/
def exec_ld_e_a (s : State) : Result :=
  .next (load8 (.reg .e) (.loc (.reg .a)) s)

/-- `LD H,B` (R80). -/
def exec_ld_h_b (s : State) : Result :=
  .next (load8 (.reg .h) (.loc (.reg .b)) s)

/-- `LD H,C` (R80). -/
def exec_ld_h_c (s : State) : Result :=
  .next (load8 (.reg .h) (.loc (.reg .c)) s)

/-- `LD H,D` (R80). -/
def exec_ld_h_d (s : State) : Result :=
  .next (load8 (.reg .h) (.loc (.reg .d)) s)

/-- `LD H,E` (R80). -/
def exec_ld_h_e (s : State) : Result :=
  .next (load8 (.reg .h) (.loc (.reg .e)) s)

/-- `LD H,H` (R80). -/
def exec_ld_h_h (s : State) : Result :=
  .next (load8 (.reg .h) (.loc (.reg .h)) s)

/-- `LD H,L` (R80). -/
def exec_ld_h_l (s : State) : Result :=
  .next (load8 (.reg .h) (.loc (.reg .l)) s)

/-- `LD H,(HL)` (R81). -/
def exec_ld_h_atHL (s : State) : Result :=
  .next (load8 (.reg .h) (.loc (.atPair .hl)) s)

/-- `LD H,A` (R80). -/
def exec_ld_h_a (s : State) : Result :=
  .next (load8 (.reg .h) (.loc (.reg .a)) s)

/-- `LD L,B` (R80). -/
def exec_ld_l_b (s : State) : Result :=
  .next (load8 (.reg .l) (.loc (.reg .b)) s)

/-- `LD L,C` (R80). -/
def exec_ld_l_c (s : State) : Result :=
  .next (load8 (.reg .l) (.loc (.reg .c)) s)

/-- `LD L,D` (R80). -/
def exec_ld_l_d (s : State) : Result :=
  .next (load8 (.reg .l) (.loc (.reg .d)) s)

/-- `LD L,E` (R80). -/
def exec_ld_l_e (s : State) : Result :=
  .next (load8 (.reg .l) (.loc (.reg .e)) s)

/-- `LD L,H` (R80). -/
def exec_ld_l_h (s : State) : Result :=
  .next (load8 (.reg .l) (.loc (.reg .h)) s)

/-- `LD L,L` (R80). -/
def exec_ld_l_l (s : State) : Result :=
  .next (load8 (.reg .l) (.loc (.reg .l)) s)

/-- `LD L,(HL)` (R81). -/
def exec_ld_l_atHL (s : State) : Result :=
  .next (load8 (.reg .l) (.loc (.atPair .hl)) s)

/-- `LD L,A` (R80). -/
def exec_ld_l_a (s : State) : Result :=
  .next (load8 (.reg .l) (.loc (.reg .a)) s)

/-- `LD (HL),B` (R82). -/
def exec_ld_atHL_b (s : State) : Result :=
  .next (load8 (.atPair .hl) (.loc (.reg .b)) s)

/-- `LD (HL),C` (R82). -/
def exec_ld_atHL_c (s : State) : Result :=
  .next (load8 (.atPair .hl) (.loc (.reg .c)) s)

/-- `LD (HL),D` (R82). -/
def exec_ld_atHL_d (s : State) : Result :=
  .next (load8 (.atPair .hl) (.loc (.reg .d)) s)

/-- `LD (HL),E` (R82). -/
def exec_ld_atHL_e (s : State) : Result :=
  .next (load8 (.atPair .hl) (.loc (.reg .e)) s)

/-- `LD (HL),H` (R82). -/
def exec_ld_atHL_h (s : State) : Result :=
  .next (load8 (.atPair .hl) (.loc (.reg .h)) s)

/-- `LD (HL),L` (R82). -/
def exec_ld_atHL_l (s : State) : Result :=
  .next (load8 (.atPair .hl) (.loc (.reg .l)) s)

/-- `LD (HL),A` (R82). -/
def exec_ld_atHL_a (s : State) : Result :=
  .next (load8 (.atPair .hl) (.loc (.reg .a)) s)

/-- `LD A,B` (R80). -/
def exec_ld_a_b (s : State) : Result :=
  .next (load8 (.reg .a) (.loc (.reg .b)) s)

/-- `LD A,C` (R80). -/
def exec_ld_a_c (s : State) : Result :=
  .next (load8 (.reg .a) (.loc (.reg .c)) s)

/-- `LD A,D` (R80). -/
def exec_ld_a_d (s : State) : Result :=
  .next (load8 (.reg .a) (.loc (.reg .d)) s)

/-- `LD A,E` (R80). -/
def exec_ld_a_e (s : State) : Result :=
  .next (load8 (.reg .a) (.loc (.reg .e)) s)

/-- `LD A,H` (R80). -/
def exec_ld_a_h (s : State) : Result :=
  .next (load8 (.reg .a) (.loc (.reg .h)) s)

/-- `LD A,L` (R80). -/
def exec_ld_a_l (s : State) : Result :=
  .next (load8 (.reg .a) (.loc (.reg .l)) s)

/-- `LD A,(HL)` (R81). -/
def exec_ld_a_atHL (s : State) : Result :=
  .next (load8 (.reg .a) (.loc (.atPair .hl)) s)

/-- `LD A,A` (R80). -/
def exec_ld_a_a (s : State) : Result :=
  .next (load8 (.reg .a) (.loc (.reg .a)) s)

/-- `LDH (a8),A` (R90). -/
def exec_ldh_atA8_a (a8 : Byte) (s : State) : Result :=
  .next (load8 (.zeroPage a8) (.loc (.reg .a)) s)

/-- `LD (a16),A` (R92). -/
def exec_ld_atA16_a (a16 : Word) (s : State) : Result :=
  .next (load8 (.absolute a16) (.loc (.reg .a)) s)

/-- `LDH A,(a8)` (R89). -/
def exec_ldh_a_atA8 (a8 : Byte) (s : State) : Result :=
  .next (load8 (.reg .a) (.loc (.zeroPage a8)) s)

/-- `LD A,(a16)` (R91). -/
def exec_ld_a_atA16 (a16 : Word) (s : State) : Result :=
  .next (load8 (.reg .a) (.loc (.absolute a16)) s)

end Sys2Proof.Machine
end

