-- ==== Sys2Proof/Machine/Step.lean ====
section
/-! DEFINITION. The one transition of the machine (R70), and the placing of an instruction where it fetches next. -/

namespace Sys2Proof.Machine

/-- `Step` (R70): nothing while halted (R74), else fetch one instruction, run it, and charge its cost. -/
def step (s : State) : Host.Outcome State Fault Refusal :=
  if s.halted then .next s
  else
    match fetchInstr s with
    | .error r => .fault r
    | .ok (i, s1) => chargeAfter i.cost (exec i s1)

/-- `s` with an instruction's bytes stored at pc, the longest instruction's three bytes, and not halted, so that the
next step fetches and runs it. -/
def State.withFetchWord (s : State) (nbits w : Nat) : State :=
  State.placeBytes { s with halted := false } s.pc (tableBytes nbits w)

end Sys2Proof.Machine
end

