-- ==== Sys2Proof/Machine/Bus.lean ====
section
/-! DEFINITION. The bus accesses of an instruction and of a step, in order, as R37 and R44 list them. `exec` and `step`
do not use this file: it is the spec's second account of what they do to memory, and statements say that the two agree. -/

namespace Sys2Proof.Machine

/-- One access of the Memory Bus (R31, R32), with the byte it moves. -/
inductive Access where
  | rd (addr : Word) (v : Byte)
  | wr (addr : Word) (v : Byte)
deriving DecidableEq, Repr

/-- A read of the byte at `addr`. -/
def readAt (s : State) (addr : Word) : Access := .rd addr (s.memRead addr)

/-- The data accesses of an instruction at a state whose pc stands past it (R37). -/
def dataAccesses (f : Form) (s : State) : List Access :=
  match f with
  | .nop => []
  | .ldRegReg _ _ => []
  | .ldRegHL _ => [readAt s (s.pair .hl)]
  | .ldHLReg r => [.wr (s.pair .hl) (s.reg r.reg)]
  | .ldRegImm _ _ => []
  | .ldHLImm d8 => [.wr (s.pair .hl) d8]
  | .ldABC => [readAt s (s.pair .bc)]
  | .ldADE => [readAt s (s.pair .de)]
  | .ldBCA => [.wr (s.pair .bc) s.a]
  | .ldDEA => [.wr (s.pair .de) s.a]
  | .ldhALoad a8 => [readAt s (zeroPageAddr a8)]
  | .ldhAStore a8 => [.wr (zeroPageAddr a8) s.a]
  | .ldAAbs a16 => [readAt s a16]
  | .ldAbsA a16 => [.wr a16 s.a]
  | .ldPairImm _ _ => []
  | .ldSPImm _ => []
  | .ldAbsSP a16 => [.wr a16 (loByte s.sp), .wr (a16 + 1) (hiByte s.sp)]
  | .push rr => [.wr (s.sp - 1) (s.reg rr.pair.hi), .wr (s.sp - 2) (s.reg rr.pair.lo)]
  | .pushAF => [.wr (s.sp - 1) s.a, .wr (s.sp - 2) s.f]
  | .pop _ => [readAt s s.sp, readAt s (s.sp + 1)]
  | .popAF => [readAt s s.sp, readAt s (s.sp + 1)]
  | .ldSPHL => []
  | .ldHLSP _ => []
  | .incReg _ => []
  | .incHL => [readAt s (s.pair .hl), .wr (s.pair .hl) (s.memRead (s.pair .hl) + 1)]
  | .decReg _ => []
  | .decHL => [readAt s (s.pair .hl), .wr (s.pair .hl) (s.memRead (s.pair .hl) - 1)]
  | .daa => []
  | .scf => []
  | .cpl => []
  | .ccf => []
  | .aluReg _ _ => []
  | .aluHL _ => [readAt s (s.pair .hl)]
  | .aluImm _ _ => []

/-- The reads of `n` instruction-stream bytes from `addr` upward (R44). -/
def fetchAccesses (s : State) (addr : Word) : Nat → List Access
  | 0 => []
  | n + 1 => readAt s addr :: fetchAccesses s (addr + 1) n

/-- All bus accesses of a step, in order: none while halted, the opcode fetch alone when the opcode is unmapped, else
the instruction-stream bytes and then the data accesses (R44, R74, R172). -/
def stepAccesses (s : State) : List Access :=
  if s.halted then []
  else
    match fetchInstr s with
    | .error _ => fetchAccesses s s.pc 1
    | .ok (i, s1) => fetchAccesses s s.pc i.length ++ dataAccesses i.form s1

/-- Memory after a list of accesses: the writes, in order. -/
def applyAccesses : List Access → State → State
  | [], s => s
  | .rd _ _ :: rest, s => applyAccesses rest s
  | .wr addr v :: rest, s => applyAccesses rest (s.memWrite addr v)

/-- The addresses a list of accesses stores to. -/
def storedAddrs : List Access → List Word
  | [] => []
  | .rd _ _ :: rest => storedAddrs rest
  | .wr addr _ :: rest => addr :: storedAddrs rest

end Sys2Proof.Machine
end

