-- ==== Sys2Proof/Machine/HostOps.lean ====
section
/-! DEFINITION. What the host does to the machine beside calling `step` (R26, R200): it constructs the machine, resets
it, loads an image, and may go on after an `UnknownOpcode`. -/

namespace Sys2Proof.Machine

/-- The machine when it is constructed, with a cycle counter of the given width (R7, R190, R191). -/
def State.powerOn (cycw : Nat) : State := { State.reset with cycw := cycw }

/-- The Timer's `reset()` (R181). -/
def State.resetTimer (s : State) : State := { s with cycles := 0 }

/-- The host's reset of the core: every element of core state takes its reset value, and memory is kept (R25, R190);
so is the width of the counter, a parameter. -/
def State.resetCore (s : State) : State :=
  State.resetTimer { State.reset with cycw := s.cycw, mem := s.mem }

/-- The failure of `loadImage` (R173). -/
inductive LoadError where
  /-- The image is longer than `IMAGE_MAX`. -/
  | imageTooLarge
deriving DecidableEq, Repr

/-- `loadImage(bytes)` (R192): the number of bytes copied to `IMAGE_BASE` upward, or `ImageTooLarge` with the state as
it was. -/
def loadImage (bytes : List Byte) (s : State) : Except LoadError Nat × State :=
  if imageWellFormed bytes then (.ok bytes.length, s.placeBytes Config.imageBase bytes)
  else (.error .imageTooLarge, s)

/-- The state the host holds when a step returns, whichever of the two results it returns (R26, R70); none for a
refusal, which is the model's own and not a result of the hardware. -/
def stateAfter : Result → Option State
  | .next s => some s
  | .fault r => some r.resume
  | .refused _ => none

end Sys2Proof.Machine
end

