-- ==== Sys2Proof/Safety.lean ====
section
/-! DEFINITION. What the claims are stated in: the invariants of the state (R21), the states the machine can be in
(R26), and what a safe run is. -/

namespace Sys2Proof.Machine

/-- The invariants of R21 that the types leave to say: F's low nibble is zero, the cycle counter fits its width, a
width R7 allows, and memory is in the model's canonical form. -/
abbrev State.Inv (s : State) : Prop :=
  s.f &&& 0x0F = 0 ∧ cycwWellFormed s.cycw = true ∧ s.cycles ≤ 2 ^ s.cycw - 1 ∧ s.mem.wf = true

/-- The states the host can see between its operations, from power-on, by the three operations of R26 and by going on
after an `UnknownOpcode` (R177). -/
inductive Reachable : State → Prop where
  | powerOn (cycw : Nat) (h : cycwWellFormed cycw = true) : Reachable (State.powerOn cycw)
  | stepOk (s t : State) (h : Reachable s) (e : step s = .next t) : Reachable t
  | stepUnknown (s : State) (r : Fault) (h : Reachable s) (e : step s = .fault r) : Reachable r.resume
  | resetCore (s : State) (h : Reachable s) : Reachable s.resetCore
  | loadImage (s : State) (bytes : List Byte) (h : Reachable s) : Reachable (loadImage bytes s).2

/-- `n` steps, one after the other, ended by the first that does not return `Ok` (R200). -/
def runSteps : Nat → State → Result
  | 0, s => .next s
  | n + 1, s =>
    match step s with
    | .next t => runSteps n t
    | .fault r => .fault r
    | .refused r => .refused r

/-- A run of `n` steps from `s` is safe when each of them returns `Ok` (R70). -/
def SafeRun (n : Nat) (s : State) : Prop := ∃ t, runSteps n s = .next t

end Sys2Proof.Machine
end

