-- ==== Sys2Proof/Certificates/Slice0/Obligations.lean ====
section
/-! DEFINITION. The statements about the model, and the formulas of the spec they are written in (namespace
`Sys2Proof.Spec`): these are written again from the rules, not taken from the model's own operations. -/

namespace Sys2Proof.Spec

open Sys2Proof.Machine

/-- `b2n` of one bit of F (R8, R16). -/
def flagBit (f : Byte) (k : Nat) : Nat := f.toNat / 2 ^ k % 2

/-- F from its four flags by their bit values 0x80, 0x40, 0x20 and 0x10 (R16). -/
def flags (z n hf cy : Bool) : Byte :=
  (if z then 0x80 else 0x00) + (if n then 0x40 else 0x00) + (if hf then 0x20 else 0x00) + (if cy then 0x10 else 0x00)

/-- The address HL, `x[H]:x[L]` (R12). -/
def hl (s : State) : Word := BitVec.ofNat 16 (s.h.toNat * 256 + s.l.toNat)

/-- The 69 unmapped opcode bytes (R57). -/
def unmapped : List Byte :=
  [0x03, 0x07, 0x09, 0x0B, 0x0F,
   0x10, 0x13, 0x17, 0x18, 0x19, 0x1B, 0x1F,
   0x20, 0x22, 0x23, 0x28, 0x29, 0x2A, 0x2B,
   0x30, 0x32, 0x33, 0x38, 0x39, 0x3A, 0x3B,
   0x76] ++
  [0xC0, 0xC2, 0xC3, 0xC4, 0xC7, 0xC8, 0xC9, 0xCA, 0xCB, 0xCC, 0xCD, 0xCF,
   0xD0, 0xD2, 0xD3, 0xD4, 0xD7, 0xD8, 0xD9, 0xDA, 0xDB, 0xDC, 0xDD, 0xDF] ++
  [0xE2, 0xE3, 0xE4, 0xE7, 0xE8, 0xE9, 0xEB, 0xEC, 0xED, 0xEF,
   0xF2, 0xF3, 0xF4, 0xF7, 0xFB, 0xFC, 0xFD, 0xFF]

/-- The opcodes of length 2 (R58). -/
def twoByte : List Byte :=
  [0x06, 0x0E, 0x16, 0x1E, 0x26, 0x2E, 0x36, 0x3E, 0xE0, 0xF0, 0xF8,
   0xC6, 0xCE, 0xD6, 0xDE, 0xE6, 0xEE, 0xF6, 0xFE]

/-- The opcodes of length 3 (R58). -/
def threeByte : List Byte := [0x01, 0x11, 0x21, 0x31, 0x08, 0xEA, 0xFA]

/-- The length a decoder tells from a mapped opcode byte (R58). -/
def lengthOf (op : Byte) : Nat := if op ∈ twoByte then 2 else if op ∈ threeByte then 3 else 1

/-- The state after an addition to A (R121): `t` is the exact sum. -/
def added (s : State) (v : Byte) (cin : Nat) : State :=
  let t := s.a.toNat + v.toNat + cin
  { s with
    a := BitVec.ofNat 8 t
    f := flags (decide (t % 256 = 0)) false (decide (s.a.toNat % 16 + v.toNat % 16 + cin ≥ 16)) (decide (t ≥ 256)) }

/-- F after a subtraction from `a` (R122), by the document's own comparisons: a borrow is `operand+carry > A`, in the
byte and in the low nibble, untruncated. -/
def subFlags (a v : Byte) (cin : Nat) : Byte :=
  flags (decide ((a.toNat + 512 - v.toNat - cin) % 256 = 0)) true
    (decide (v.toNat % 16 + cin > a.toNat % 16)) (decide (v.toNat + cin > a.toNat))

/-- The state after a subtraction from A (R122). -/
def subtracted (s : State) (v : Byte) (cin : Nat) : State :=
  { s with a := BitVec.ofNat 8 (s.a.toNat + 512 - v.toNat - cin), f := subFlags s.a v cin }

/-- The state after a logic operation (R123). -/
def logic (s : State) (res : Byte) (hf : Bool) : State :=
  { s with a := res, f := flags (decide (res.toNat = 0)) false hf false }

/-- F after an increment that gives `res` (R124): Cy is kept. -/
def incFlags (s : State) (res : Nat) : Byte :=
  flags (decide (res = 0)) false (decide (res % 16 = 0)) (decide (flagBit s.f 4 = 1))

/-- F after a decrement that gives `res` (R124): Cy is kept. -/
def decFlags (s : State) (res : Nat) : Byte :=
  flags (decide (res = 0)) true (decide (res % 16 = 15)) (decide (flagBit s.f 4 = 1))

/-- The pseudocode of `DAA` (R129): the adjusted A and the new Cy, in integers. -/
def daa (a cy hf n : Nat) : Nat × Nat :=
  if n = 0 then
    let high := decide (cy = 1 ∨ a > 0x99)
    let low := decide (hf = 1 ∨ a % 16 > 9)
    ((a + (if high then 0x60 else 0) + (if low then 0x06 else 0)) % 256, if high then 1 else cy)
  else
    ((a + 256 - (if cy = 1 then 0x60 else 0) - (if hf = 1 then 0x06 else 0)) % 256, cy)

/-- The 8-bit registers an instruction writes (R13, R17), F included. -/
def writtenRegs : Form → List Reg
  | .nop => []
  | .ldRegReg r _ => [r.reg]
  | .ldRegHL r => [r.reg]
  | .ldHLReg _ => []
  | .ldRegImm r _ => [r.reg]
  | .ldHLImm _ => []
  | .ldABC => [.a]
  | .ldADE => [.a]
  | .ldBCA => []
  | .ldDEA => []
  | .ldhALoad _ => [.a]
  | .ldhAStore _ => []
  | .ldAAbs _ => [.a]
  | .ldAbsA _ => []
  | .ldPairImm rr _ => [rr.pair.hi, rr.pair.lo]
  | .ldSPImm _ => []
  | .ldAbsSP _ => []
  | .push _ => []
  | .pushAF => []
  | .pop rr => [rr.pair.hi, rr.pair.lo]
  | .popAF => [.a, .f]
  | .ldSPHL => []
  | .ldHLSP _ => [.h, .l]
  | .incReg r => [r.reg, .f]
  | .incHL => [.f]
  | .decReg r => [r.reg, .f]
  | .decHL => [.f]
  | .daa => [.a, .f]
  | .scf => [.f]
  | .cpl => [.a, .f]
  | .ccf => [.f]
  | .aluReg op _ => if op = .cp then [.f] else [.a, .f]
  | .aluHL op => if op = .cp then [.f] else [.a, .f]
  | .aluImm op _ => if op = .cp then [.f] else [.a, .f]

/-- The flags an instruction may change, as a mask over F (the rows of R17, and R157 for all others). -/
def writtenFlags : Form → Byte
  | .incReg _ => 0xE0
  | .incHL => 0xE0
  | .decReg _ => 0xE0
  | .decHL => 0xE0
  | .daa => 0xB0
  | .scf => 0x70
  | .cpl => 0x60
  | .ccf => 0x70
  | .aluReg _ _ => 0xF0
  | .aluHL _ => 0xF0
  | .aluImm _ _ => 0xF0
  | .popAF => 0xF0
  | _ => 0x00

/-- The flags an instruction reads, as a mask over F (R17's readers, R158); `PUSH AF` reads the whole byte. -/
def readFlags : Form → Byte
  | .pushAF => 0xFF
  | .daa => 0x70
  | .ccf => 0x10
  | .aluReg op _ => if op = .adc ∨ op = .sbc then 0x10 else 0x00
  | .aluHL op => if op = .adc ∨ op = .sbc then 0x10 else 0x00
  | .aluImm op _ => if op = .adc ∨ op = .sbc then 0x10 else 0x00
  | _ => 0x00

/-- The instructions of 41_load_store_8bit.md. -/
def isByteLoad : Form → Bool
  | .ldRegReg _ _ | .ldRegHL _ | .ldHLReg _ | .ldRegImm _ _ | .ldHLImm _ | .ldABC | .ldADE | .ldBCA | .ldDEA
  | .ldhALoad _ | .ldhAStore _ | .ldAAbs _ | .ldAbsA _ => true
  | _ => false

/-- SP after an instruction: the forms that write it, and no other (R15, R110). -/
def spAfter (f : Form) (s : State) : Word :=
  match f with
  | .push _ => s.sp - 2
  | .pushAF => s.sp - 2
  | .pop _ => s.sp + 2
  | .popAF => s.sp + 2
  | .ldSPImm d16 => d16
  | .ldSPHL => hl s
  | _ => s.sp

/-- The ticks that are not a byte fetched, read or written (the pattern of R61). -/
def extraTicks : Form → Nat
  | .push _ => 4
  | .pushAF => 4
  | .ldSPHL => 4
  | .ldHLSP _ => 4
  | _ => 0

end Sys2Proof.Spec

open Sys2Proof Sys2Proof.Machine

/-! ## Memory -/

/-- R32: a byte write is read back, leaves every other byte, and has no other effect. -/
def Obligations.ByteReadAfterWrite : Prop :=
  ∀ (s : State) (addr : Word) (v : Byte),
    (s.memWrite addr v).memRead addr = v ∧
    (∀ other : Word, other ≠ addr → (s.memWrite addr v).memRead other = s.memRead other) ∧
    { s.memWrite addr v with mem := s.mem } = s

/-- R33, R34: words are little-endian, the second address wraps, and a word write is read back. -/
def Obligations.WordAccessLittleEndian : Prop :=
  ∀ (s : State) (addr v : Word),
    s.memRead16 addr = BitVec.ofNat 16 ((s.memRead (addr + 1)).toNat * 256 + (s.memRead addr).toNat) ∧
    (s.memWrite16 addr v).memRead addr = BitVec.ofNat 8 v.toNat ∧
    (s.memWrite16 addr v).memRead (addr + 1) = BitVec.ofNat 8 (v.toNat / 256) ∧
    (s.memWrite16 addr v).memRead16 addr = v ∧
    (∀ other : Word, other ≠ addr → other ≠ addr + 1 → (s.memWrite16 addr v).memRead other = s.memRead other) ∧
    { s.memWrite16 addr v with mem := s.mem } = s

/-- The model's memory is canonical (log entry 3): equal contents are equal data. -/
def Obligations.MemoryContentsDetermineMemory : Prop :=
  ∀ m n : Memory, m.wf = true → n.wf = true → (∀ addr : Word, m.read addr.toNat = n.read addr.toNat) → m = n

/-! ## Registers and reset -/

/-- R12, R16: F's four flags stand in bits 7 to 4; a register write is read back, except that F keeps its upper four bits
only; every other register is left; a pair is its two bytes, the first-named register the high one. -/
def Obligations.RegisterReadAfterWrite : Prop :=
  (∀ s : State, (s.flagZ = true ↔ Spec.flagBit s.f 7 = 1) ∧ (s.flagN = true ↔ Spec.flagBit s.f 6 = 1) ∧
    (s.flagH = true ↔ Spec.flagBit s.f 5 = 1) ∧ (s.flagC = true ↔ Spec.flagBit s.f 4 = 1)) ∧
  (∀ (s : State) (z n hf cy : Bool), s.setFlags z n hf cy = { s with f := Spec.flags z n hf cy }) ∧
  (∀ (s : State) (r other : Reg) (v : Byte),
    (s.setReg r v).reg r = (if r = .f then v &&& 0xF0 else v) ∧
    (other ≠ r → (s.setReg r v).reg other = s.reg other) ∧
    (s.setReg r v).sp = s.sp ∧ (s.setReg r v).pc = s.pc ∧ (s.setReg r v).ime = s.ime ∧
    (s.setReg r v).halted = s.halted ∧ (s.setReg r v).cycles = s.cycles ∧ (s.setReg r v).mem = s.mem) ∧
  (∀ (s : State) (p : Pair) (v : Word),
    s.pair p = BitVec.ofNat 16 ((s.reg p.hi).toNat * 256 + (s.reg p.lo).toNat) ∧
    (p ≠ .af → (s.setPair p v).pair p = v) ∧ (s.setPair .af v).pair .af = v &&& 0xFFF0)

/-- R25, R190: reset gives every element of core state the value of R25, whatever the state before, and keeps `Mem`. -/
def Obligations.ResetGivesCoreValues : Prop :=
  ∀ s : State,
    s.resetCore.a = 0x00 ∧ s.resetCore.f = 0x00 ∧ s.resetCore.b = 0x00 ∧ s.resetCore.c = 0x00 ∧ s.resetCore.d = 0x00 ∧
    s.resetCore.e = 0x00 ∧ s.resetCore.h = 0x00 ∧ s.resetCore.l = 0x00 ∧ s.resetCore.sp = 0xFFFE ∧
    s.resetCore.pc = 0x0100 ∧ s.resetCore.ime = true ∧ s.resetCore.halted = false ∧ s.resetCore.cycles = 0 ∧
    s.resetCore.mem = s.mem

/-- R191: at power-on every byte of memory is zero and the core is in the reset state. The model's choices (log entry 2):
the width of the counter is kept by reset, and `State.reset` is the machine with the default width. -/
def Obligations.PowerOnState : Prop :=
  (∀ (w : Nat) (addr : Word), (State.powerOn w).memRead addr = 0x00) ∧
  (∀ w : Nat, (State.powerOn w).resetCore = State.powerOn w) ∧
  (∀ s : State, s.resetCore.cycw = s.cycw) ∧
  State.reset = State.powerOn 64

/-- The invariants of R21, with the canonical form of memory (log entry 3), hold at power-on with any width R7 allows. -/
def Obligations.PowerOnMeetsInvariants : Prop :=
  ∀ w : Nat, 32 ≤ w → (State.powerOn w).Inv

/-- R21, R20: reset, and every step, whichever of the two results it returns, leave F's low nibble zero and the counter
within its width; a step never lowers the counter. (The ranges of the registers are their types.) -/
def Obligations.StepKeepsFlagNibbleAndCounter : Prop :=
  (∀ s : State, s.resetCore.f &&& 0x0F = 0 ∧ s.resetCore.cycles ≤ 2 ^ s.cycw - 1) ∧
  ∀ s t : State, s.f &&& 0x0F = 0 → s.cycles ≤ 2 ^ s.cycw - 1 → stateAfter (step s) = some t →
    t.f &&& 0x0F = 0 ∧ s.cycles ≤ t.cycles ∧ t.cycles ≤ 2 ^ s.cycw - 1

/-- Every step, whichever of the two results it returns, keeps the whole invariant: R21's part, and the model's own part,
the canonical form of memory (log entry 3) and a counter width that R7 allows (log entry 2), which no step changes. -/
def Obligations.StepKeepsInvariant : Prop :=
  ∀ s t : State, s.Inv → stateAfter (step s) = some t → t.Inv ∧ t.cycw = s.cycw

/-- R18, R19, R21, R182, R26: in every state the machine can be in from power-on, by the host's three operations and
by going on after an `UnknownOpcode`, the invariants hold, `ime` is true and `halted` is false. -/
def Obligations.ReachableStatesAreLegal : Prop :=
  ∀ s : State, Reachable s → s.Inv ∧ s.ime = true ∧ s.halted = false

/-! ## The step -/

/-- R74, R182, R175: while halted a step performs no bus access, changes no state and returns `Ok`, whatever byte stands at
pc; loading an image leaves the core halted and reset clears the flag; and no step sets it. -/
def Obligations.HaltedStateIsTerminal : Prop :=
  (∀ s : State, s.halted = true → step s = .next s ∧ stepAccesses s = []) ∧
  (∀ (s : State) (bytes : List Byte), (loadImage bytes s).2.halted = s.halted ∧ s.resetCore.halted = false) ∧
  ∀ s t : State, stateAfter (step s) = some t → t.halted = s.halted

/-- R57, R170, R171, R172: an unmapped opcode byte ends the step with `UnknownOpcode(op)`; pc is one past the byte and
every other element of state is unchanged; the host goes on, if it does, from there. -/
def Obligations.UnmappedOpcodeRaises : Prop :=
  ∀ s : State, s.halted = false → s.memRead s.pc ∈ Spec.unmapped →
    step s = .fault (.unknownOpcode (s.memRead s.pc) { s with pc := s.pc + 1 }) ∧
    stateAfter (step s) = some { s with pc := s.pc + 1 } ∧
    stepAccesses s = [.rd s.pc (s.memRead s.pc)]

/-- R70: a step always ends, with one of the two results: `Ok`, or, exactly when the core is not halted and the byte at
pc is unmapped, `UnknownOpcode`. -/
def Obligations.StepEndsWithOneOfTwoResults : Prop :=
  ∀ s : State,
    (∃ t, step s = .next t ∧ (s.halted = true ∨ s.memRead s.pc ∉ Spec.unmapped)) ∨
    (∃ t, step s = .fault (.unknownOpcode (s.memRead s.pc) t) ∧ s.halted = false ∧ s.memRead s.pc ∈ Spec.unmapped)

/-- R70, R73: the step: nothing while halted; `UnknownOpcode` with pc one on when the byte at pc is unmapped; and when the
bytes at pc decode to an instruction, the step runs it with pc past its bytes and then adds its cost to the counter,
saturating (R180). -/
def Obligations.StepRunsDecodedInstruction : Prop :=
  (∀ s : State, s.halted = true → step s = .next s) ∧
  (∀ s : State, s.halted = false → s.memRead s.pc ∈ Spec.unmapped →
    step s = .fault (.unknownOpcode (s.memRead s.pc) { s with pc := s.pc + 1 })) ∧
  ∀ (s : State) (i : Instr) (rest : List Byte),
    s.halted = false → decode (s.bytesAt s.pc 3) = .ok (i, rest) →
    ∃ t, exec i { s with pc := s.pc + BitVec.ofNat 16 i.length } = .next t ∧
      step s = .next { t with cycles := min (s.cycles + i.cost) (2 ^ s.cycw - 1) }

/-- R14: a step that returns `Ok` moves pc past the instruction's bytes and in no other way; the length is told by the
opcode byte (R58). -/
def Obligations.PcAdvancesByLength : Prop :=
  ∀ s t : State, s.halted = false → step s = .next t →
    t.pc = s.pc + BitVec.ofNat 16 (Spec.lengthOf (s.memRead s.pc))

/-- R72: no instruction fails, and none touches `ime`, `halted` or `cycles`; immediates having been fetched, none touches
pc. -/
def Obligations.HandlersNeverFail : Prop :=
  ∀ (i : Instr) (s : State),
    ∃ t, exec i s = .next t ∧ t.ime = s.ime ∧ t.halted = s.halted ∧ t.cycles = s.cycles ∧ t.pc = s.pc

/-- R43, R50: the bytes of an instruction stored one after the other at the address of the next instruction, across the
wrap at 0xFFFF as anywhere, are fetched as that instruction: a store is seen by the very next fetch. -/
def Obligations.StoredInstructionIsFetched : Prop :=
  ∀ (s : State) (i : Instr),
    fetchInstr (s.placeBytes s.pc (encode i)) =
      .ok (i, { s.placeBytes s.pc (encode i) with pc := s.pc + BitVec.ofNat 16 i.length })

/-! ## Bus accesses and frames -/

/-- R37: what an instruction does to memory is the writes of its data accesses, in their order. -/
def Obligations.MemoryFollowsBusWrites : Prop :=
  ∀ (i : Instr) (s t : State), exec i s = .next t → t.mem = (applyAccesses (dataAccesses i.form s) s).mem

/-- The memory frame: every byte but those the instruction stores to (none, for most forms) reads as before. -/
def Obligations.MemoryFrame : Prop :=
  ∀ (i : Instr) (s t : State), exec i s = .next t →
    ∀ addr : Word, addr ∉ storedAddrs (dataAccesses i.form s) → t.memRead addr = s.memRead addr

/-- R13: the register frame: every 8-bit register but those the instruction writes is unchanged. -/
def Obligations.RegisterFrame : Prop :=
  ∀ (i : Instr) (s t : State), exec i s = .next t → ∀ r : Reg, r ∉ Spec.writtenRegs i.form → t.reg r = s.reg r

/-- R157: an instruction with no row in R17 leaves all of F; every other leaves the flags R17 does not give it; and none
makes F's low nibble non-zero. -/
def Obligations.FlagFrame : Prop :=
  ∀ (i : Instr) (s t : State), exec i s = .next t →
    (Spec.writtenFlags i.form = 0x00 → t.f = s.f) ∧
    (s.f &&& 0x0F = 0 →
      t.f &&& ~~~ (Spec.writtenFlags i.form) = s.f &&& ~~~ (Spec.writtenFlags i.form) ∧ t.f &&& 0x0F = 0)

/-- R17, R158: what an instruction reads of F: with two values of F that agree on the flags the instruction reads, it
leaves the same registers, SP and memory, and the same values in the flags it writes. -/
def Obligations.FlagsReadAreTheListedOnes : Prop :=
  ∀ (i : Instr) (s t u : State) (f2 : Byte),
    f2 &&& Spec.readFlags i.form = s.f &&& Spec.readFlags i.form →
    exec i s = .next t → exec i { s with f := f2 } = .next u →
    (∀ r : Reg, r ≠ .f → u.reg r = t.reg r) ∧ u.sp = t.sp ∧ u.mem = t.mem ∧
      u.f &&& Spec.writtenFlags i.form = t.f &&& Spec.writtenFlags i.form

/-- R15, R110: `PUSH` lowers SP by 2, `POP` raises it by 2, `LD SP,d16` and `LD SP,HL` load it, and no other
instruction changes it. -/
def Obligations.StackPointerAfter : Prop :=
  ∀ (i : Instr) (s t : State), exec i s = .next t → t.sp = Spec.spAfter i.form s

/-- R61: the cost of an instruction is 4 ticks for each byte it fetches and each data byte it reads or writes, and 4
more for `PUSH`, `LD SP,HL` and `LD HL,SP+s8`. -/
def Obligations.CostFollowsBusAccesses : Prop :=
  ∀ (i : Instr) (s : State), i.cost = 4 * i.length + 4 * (dataAccesses i.form s).length + Spec.extraTicks i.form

/-! ## NOP and the 8-bit loads -/

/-- R75: `NOP` has no effect of its own: the step moves pc and adds 4 to the counter. -/
def Obligations.NopHasNoEffect : Prop :=
  encode .nop = [0x00] ∧ Instr.nop.cost = 4 ∧ (∀ s : State, exec .nop s = .next s) ∧
  ∀ s : State, s.halted = false → s.memRead s.pc = 0x00 →
    step s = .next { s with pc := s.pc + 1, cycles := min (s.cycles + 4) (2 ^ s.cycw - 1) }

/-- R75, R200: running into unloaded memory executes `NOP`s indefinitely, never an error: over memory that is all zero a
run of any length is safe, pc wrapping as it goes. -/
def Obligations.ZeroMemoryRunsForever : Prop :=
  ∀ (n : Nat) (s : State), (∀ addr : Word, s.memRead addr = 0x00) → s.halted = false → s.cycles ≤ 2 ^ s.cycw - 1 →
    SafeRun n s ∧
    runSteps n s =
      .next { s with pc := s.pc + BitVec.ofNat 16 n, cycles := min (s.cycles + 4 * n) (2 ^ s.cycw - 1) }

/-- R80: `LD r,r'`. -/
def Obligations.LoadRegFromReg : Prop :=
  ∀ (i : Instr) (r r2 : R8), i.form = .ldRegReg r r2 →
    encode i = [0b01#2 ++ r.code ++ r2.code] ∧ i.cost = 4 ∧
    ∀ s : State, exec i s = .next (s.setReg r.reg (s.reg r2.reg))

/-- R81: `LD r,(HL)`. -/
def Obligations.LoadRegFromHL : Prop :=
  ∀ (i : Instr) (r : R8), i.form = .ldRegHL r →
    encode i = [0b01#2 ++ r.code ++ 0b110#3] ∧ i.cost = 8 ∧
    ∀ s : State, exec i s = .next (s.setReg r.reg (s.memRead (Spec.hl s)))

/-- R82: `LD (HL),r`. -/
def Obligations.StoreRegAtHL : Prop :=
  ∀ (i : Instr) (r : R8), i.form = .ldHLReg r →
    encode i = [0b01110#5 ++ r.code] ∧ i.cost = 8 ∧
    ∀ s : State, exec i s = .next (s.memWrite (Spec.hl s) (s.reg r.reg))

/-- R83: `LD r,d8`. -/
def Obligations.LoadRegImmediate : Prop :=
  ∀ (i : Instr) (r : R8) (d8 : Byte), i.form = .ldRegImm r d8 →
    encode i = [0b00#2 ++ r.code ++ 0b110#3, d8] ∧ i.cost = 8 ∧
    ∀ s : State, exec i s = .next (s.setReg r.reg d8)

/-- R84: `LD (HL),d8`. -/
def Obligations.StoreImmediateAtHL : Prop :=
  ∀ d8 : Byte, encode (.ld_atHL_d8 d8) = [0x36, d8] ∧ (Instr.ld_atHL_d8 d8).cost = 12 ∧
    ∀ s : State, exec (.ld_atHL_d8 d8) s = .next (s.memWrite (Spec.hl s) d8)

/-- R85, R86: `LD A,(BC)` and `LD A,(DE)`. -/
def Obligations.LoadAFromBCOrDE : Prop :=
  encode .ld_a_atBC = [0x0A] ∧ Instr.ld_a_atBC.cost = 8 ∧ encode .ld_a_atDE = [0x1A] ∧ Instr.ld_a_atDE.cost = 8 ∧
  ∀ s : State,
    exec .ld_a_atBC s = .next { s with a := s.memRead (BitVec.ofNat 16 (s.b.toNat * 256 + s.c.toNat)) } ∧
    exec .ld_a_atDE s = .next { s with a := s.memRead (BitVec.ofNat 16 (s.d.toNat * 256 + s.e.toNat)) }

/-- R87, R88: `LD (BC),A` and `LD (DE),A`. -/
def Obligations.StoreAAtBCOrDE : Prop :=
  encode .ld_atBC_a = [0x02] ∧ Instr.ld_atBC_a.cost = 8 ∧ encode .ld_atDE_a = [0x12] ∧ Instr.ld_atDE_a.cost = 8 ∧
  ∀ s : State,
    exec .ld_atBC_a s = .next (s.memWrite (BitVec.ofNat 16 (s.b.toNat * 256 + s.c.toNat)) s.a) ∧
    exec .ld_atDE_a s = .next (s.memWrite (BitVec.ofNat 16 (s.d.toNat * 256 + s.e.toNat)) s.a)

/-- R89, R90: `LDH A,(a8)` and `LDH (a8),A`, at `0xFF00 + a8`; R39: the address never wraps, and the bytes are the ones the
absolute forms reach. -/
def Obligations.ZeroPageLoadStore : Prop :=
  ∀ a8 : Byte,
    encode (.ldh_a_atA8 a8) = [0xF0, a8] ∧ (Instr.ldh_a_atA8 a8).cost = 12 ∧
    encode (.ldh_atA8_a a8) = [0xE0, a8] ∧ (Instr.ldh_atA8_a a8).cost = 12 ∧
    (BitVec.ofNat 16 (0xFF00 + a8.toNat) : Word).toNat = 0xFF00 + a8.toNat ∧
    ∀ s : State,
      exec (.ldh_a_atA8 a8) s = .next { s with a := s.memRead (BitVec.ofNat 16 (0xFF00 + a8.toNat)) } ∧
      exec (.ldh_atA8_a a8) s = .next (s.memWrite (BitVec.ofNat 16 (0xFF00 + a8.toNat)) s.a) ∧
      exec (.ldh_a_atA8 a8) s = exec (.ld_a_atA16 (BitVec.ofNat 16 (0xFF00 + a8.toNat))) s ∧
      exec (.ldh_atA8_a a8) s = exec (.ld_atA16_a (BitVec.ofNat 16 (0xFF00 + a8.toNat))) s

/-- R91, R92: `LD A,(a16)` and `LD (a16),A`. -/
def Obligations.AbsoluteLoadStore : Prop :=
  ∀ lo hi : Byte,
    let a16 := BitVec.ofNat 16 (hi.toNat * 256 + lo.toNat)
    encode (.ld_a_atA16 a16) = [0xFA, lo, hi] ∧ (Instr.ld_a_atA16 a16).cost = 16 ∧
    encode (.ld_atA16_a a16) = [0xEA, lo, hi] ∧ (Instr.ld_atA16_a a16).cost = 16 ∧
    ∀ s : State,
      exec (.ld_a_atA16 a16) s = .next { s with a := s.memRead a16 } ∧
      exec (.ld_atA16_a a16) s = .next (s.memWrite a16 s.a)

/-- R93: an instruction of the 8-bit load family leaves F, SP, `ime` and `halted`, and changes at most one 8-bit
register or one memory byte. -/
def Obligations.ByteLoadsChangeOneByte : Prop :=
  ∀ (i : Instr) (s t : State), Spec.isByteLoad i.form = true → exec i s = .next t →
    t.f = s.f ∧ t.sp = s.sp ∧ t.ime = s.ime ∧ t.halted = s.halted ∧
    ((∃ r : Reg, r ≠ .f ∧ (∀ other : Reg, other ≠ r → t.reg other = s.reg other) ∧ t.mem = s.mem) ∨
     (∃ addr : Word, storedAddrs (dataAccesses i.form s) = [addr] ∧ (∀ r : Reg, t.reg r = s.reg r) ∧
        ∀ other : Word, other ≠ addr → t.memRead other = s.memRead other))

/-! ## The 16-bit loads and the stack -/

/-- R100: `LD rr,d16`, the low byte first in the stream. -/
def Obligations.LoadPairImmediate : Prop :=
  ∀ (i : Instr) (rr : RR) (lo hi : Byte), i.form = .ldPairImm rr (BitVec.ofNat 16 (hi.toNat * 256 + lo.toNat)) →
    encode i = [0b00#2 ++ rr.code ++ 0b0001#4, lo, hi] ∧ i.cost = 12 ∧
    ∀ s : State, exec i s = .next ((s.setReg rr.pair.lo lo).setReg rr.pair.hi hi)

/-- R101: `LD SP,d16`. -/
def Obligations.LoadSpImmediate : Prop :=
  ∀ lo hi : Byte,
    let d16 := BitVec.ofNat 16 (hi.toNat * 256 + lo.toNat)
    encode (.ld_sp_d16 d16) = [0x31, lo, hi] ∧ (Instr.ld_sp_d16 d16).cost = 12 ∧
    ∀ s : State, exec (.ld_sp_d16 d16) s = .next { s with sp := d16 }

/-- R102: `LD (a16),SP`, a little-endian word write. -/
def Obligations.StoreSpAbsolute : Prop :=
  ∀ lo hi : Byte,
    let a16 := BitVec.ofNat 16 (hi.toNat * 256 + lo.toNat)
    encode (.ld_atA16_sp a16) = [0x08, lo, hi] ∧ (Instr.ld_atA16_sp a16).cost = 20 ∧
    ∀ s : State, exec (.ld_atA16_sp a16) s =
      .next ((s.memWrite a16 (BitVec.ofNat 8 s.sp.toNat)).memWrite (a16 + 1) (BitVec.ofNat 8 (s.sp.toNat / 256)))

/-- R103, R104: `PUSH rr` and `PUSH AF`: with S the old SP, the high byte goes to S-1, then the low byte to S-2, and SP
ends at S-2. -/
def Obligations.PushStoresPair : Prop :=
  (∀ (i : Instr) (rr : RR), i.form = .push rr →
    encode i = [0b11#2 ++ rr.code ++ 0b0101#4] ∧ i.cost = 16 ∧
    ∀ s : State, exec i s =
      .next { (s.memWrite (s.sp - 1) (s.reg rr.pair.hi)).memWrite (s.sp - 2) (s.reg rr.pair.lo) with sp := s.sp - 2 }) ∧
  encode .push_af = [0xF5] ∧ Instr.push_af.cost = 16 ∧
  ∀ s : State, exec .push_af s =
    .next { (s.memWrite (s.sp - 1) s.a).memWrite (s.sp - 2) s.f with sp := s.sp - 2 }

/-- R105, R106: `POP rr` and `POP AF`: the low byte comes from SP, the high byte from SP+1, and SP ends 2 higher; the
popped F loses its low nibble. -/
def Obligations.PopLoadsPair : Prop :=
  (∀ (i : Instr) (rr : RR), i.form = .pop rr →
    encode i = [0b11#2 ++ rr.code ++ 0b0001#4] ∧ i.cost = 12 ∧
    ∀ s : State, exec i s =
      .next { (s.setReg rr.pair.lo (s.memRead s.sp)).setReg rr.pair.hi (s.memRead (s.sp + 1)) with sp := s.sp + 2 }) ∧
  encode .pop_af = [0xF1] ∧ Instr.pop_af.cost = 12 ∧
  ∀ s : State, exec .pop_af s =
    .next { s with f := s.memRead s.sp &&& 0xF0, a := s.memRead (s.sp + 1), sp := s.sp + 2 }

/-- R107: `LD SP,HL`. -/
def Obligations.LoadSpFromHL : Prop :=
  encode .ld_sp_hl = [0xF9] ∧ Instr.ld_sp_hl.cost = 8 ∧ ∀ s : State, exec .ld_sp_hl s = .next { s with sp := Spec.hl s }

/-- R108: `LD HL,SP+s8`: the displacement is signed, the sum wraps, and F is unchanged. -/
def Obligations.LoadHLFromSpPlus : Prop :=
  ∀ s8 : Byte,
    encode (.ld_hl_spS8 s8) = [0xF8, s8] ∧ (Instr.ld_hl_spS8 s8).cost = 12 ∧
    ∀ s : State,
      let t := (s.sp.toNat + (if s8.toNat < 128 then s8.toNat else s8.toNat + 0xFF00)) % 65536
      exec (.ld_hl_spS8 s8) s = .next { s with h := BitVec.ofNat 8 (t / 256), l := BitVec.ofNat 8 t }

/-- R109: `PUSH rr1; POP rr2` copies pair rr1 to pair rr2, with the mask of R106 when rr2 is AF, leaves the two bytes in
memory below SP, and returns SP to its old value; with rr1 = rr2 every register is as before (for AF when F's low nibble
is zero, as R21 says it always is). -/
def Obligations.PushThenPopCopiesPair : Prop :=
  ∀ (i j : Instr) (p q : Pair) (s : State),
    (i.form = .pushAF ∧ p = .af ∨ ∃ rr : RR, i.form = .push rr ∧ p = rr.pair) →
    (j.form = .popAF ∧ q = .af ∨ ∃ rr : RR, j.form = .pop rr ∧ q = rr.pair) →
    ∃ t u, exec i s = .next t ∧ exec j t = .next u ∧ u.sp = s.sp ∧ u.reg q.hi = s.reg p.hi ∧
      u.reg q.lo = (if q = .af then s.reg p.lo &&& 0xF0 else s.reg p.lo) ∧
      u.memRead (s.sp - 1) = s.reg p.hi ∧ u.memRead (s.sp - 2) = s.reg p.lo ∧
      (p = q → (p = .af → s.f &&& 0x0F = 0) → ∀ r : Reg, u.reg r = s.reg r)

/-! ## The 8-bit arithmetic and logic -/

/-- R124, R125, R126: `INC r` and `INC (HL)`. -/
def Obligations.IncrementResults : Prop :=
  (∀ (i : Instr) (r : R8), i.form = .incReg r →
    encode i = [0b00#2 ++ r.code ++ 0b100#3] ∧ i.cost = 4 ∧
    ∀ s : State,
      let res := ((s.reg r.reg).toNat + 1) % 256
      exec i s = .next { s.setReg r.reg (BitVec.ofNat 8 res) with f := Spec.incFlags s res }) ∧
  encode .inc_atHL = [0x34] ∧ Instr.inc_atHL.cost = 12 ∧
  ∀ s : State,
    let res := ((s.memRead (Spec.hl s)).toNat + 1) % 256
    exec .inc_atHL s = .next { s.memWrite (Spec.hl s) (BitVec.ofNat 8 res) with f := Spec.incFlags s res }

/-- R124, R127, R128: `DEC r` and `DEC (HL)`. -/
def Obligations.DecrementResults : Prop :=
  (∀ (i : Instr) (r : R8), i.form = .decReg r →
    encode i = [0b00#2 ++ r.code ++ 0b101#3] ∧ i.cost = 4 ∧
    ∀ s : State,
      let res := ((s.reg r.reg).toNat + 255) % 256
      exec i s = .next { s.setReg r.reg (BitVec.ofNat 8 res) with f := Spec.decFlags s res }) ∧
  encode .dec_atHL = [0x35] ∧ Instr.dec_atHL.cost = 12 ∧
  ∀ s : State,
    let res := ((s.memRead (Spec.hl s)).toNat + 255) % 256
    exec .dec_atHL s = .next { s.memWrite (Spec.hl s) (BitVec.ofNat 8 res) with f := Spec.decFlags s res }

/-- R129: `DAA`. -/
def Obligations.DecimalAdjustResult : Prop :=
  encode .daa = [0x27] ∧ Instr.daa.cost = 4 ∧
  ∀ s : State,
    let r := Spec.daa s.a.toNat (Spec.flagBit s.f 4) (Spec.flagBit s.f 5) (Spec.flagBit s.f 6)
    exec .daa s =
      .next { s with
        a := BitVec.ofNat 8 r.1
        f := Spec.flags (decide (r.1 = 0)) (decide (Spec.flagBit s.f 6 = 1)) false (decide (r.2 = 1)) }

/-- R130, R132: `SCF` sets and `CCF` complements Cy; both clear N and Hf and keep Z and A. -/
def Obligations.CarryFlagInstructions : Prop :=
  encode .scf = [0x37] ∧ Instr.scf.cost = 4 ∧ encode .ccf = [0x3F] ∧ Instr.ccf.cost = 4 ∧
  ∀ s : State,
    exec .scf s = .next { s with f := Spec.flags (decide (Spec.flagBit s.f 7 = 1)) false false true } ∧
    exec .ccf s =
      .next { s with f := Spec.flags (decide (Spec.flagBit s.f 7 = 1)) false false (decide (Spec.flagBit s.f 4 = 0)) }

/-- R131: `CPL` complements A, sets N and Hf, and keeps Z and Cy. -/
def Obligations.ComplementResult : Prop :=
  encode .cpl = [0x2F] ∧ Instr.cpl.cost = 4 ∧
  ∀ s : State, exec .cpl s =
    .next { s with
      a := BitVec.ofNat 8 (255 - s.a.toNat)
      f := Spec.flags (decide (Spec.flagBit s.f 7 = 1)) true true (decide (Spec.flagBit s.f 4 = 1)) }

/-- R121, R133 to R138: `ADD` and `ADC` in their three variants; `ADC` adds the old Cy, `ADD` ignores it. -/
def Obligations.AdditionResults : Prop :=
  ∀ (op : AluOp) (k : State → Nat),
    (op = .add ∧ k = fun _ => 0) ∨ (op = .adc ∧ k = fun s => Spec.flagBit s.f 4) →
    (∀ (i : Instr) (r : R8), i.form = .aluReg op r →
      encode i = [0b10#2 ++ op.code ++ r.code] ∧ i.cost = 4 ∧
      ∀ s : State, exec i s = .next (Spec.added s (s.reg r.reg) (k s))) ∧
    (∀ i : Instr, i.form = .aluHL op →
      encode i = [0b10#2 ++ op.code ++ 0b110#3] ∧ i.cost = 8 ∧
      ∀ s : State, exec i s = .next (Spec.added s (s.memRead (Spec.hl s)) (k s))) ∧
    (∀ (i : Instr) (d8 : Byte), i.form = .aluImm op d8 →
      encode i = [0b11#2 ++ op.code ++ 0b110#3, d8] ∧ i.cost = 8 ∧
      ∀ s : State, exec i s = .next (Spec.added s d8 (k s)))

/-- R122, R139 to R144: `SUB` and `SBC` in their three variants; `SBC` subtracts the old Cy, `SUB` ignores it. -/
def Obligations.SubtractionResults : Prop :=
  ∀ (op : AluOp) (k : State → Nat),
    (op = .sub ∧ k = fun _ => 0) ∨ (op = .sbc ∧ k = fun s => Spec.flagBit s.f 4) →
    (∀ (i : Instr) (r : R8), i.form = .aluReg op r →
      encode i = [0b10#2 ++ op.code ++ r.code] ∧ i.cost = 4 ∧
      ∀ s : State, exec i s = .next (Spec.subtracted s (s.reg r.reg) (k s))) ∧
    (∀ i : Instr, i.form = .aluHL op →
      encode i = [0b10#2 ++ op.code ++ 0b110#3] ∧ i.cost = 8 ∧
      ∀ s : State, exec i s = .next (Spec.subtracted s (s.memRead (Spec.hl s)) (k s))) ∧
    (∀ (i : Instr) (d8 : Byte), i.form = .aluImm op d8 →
      encode i = [0b11#2 ++ op.code ++ 0b110#3, d8] ∧ i.cost = 8 ∧
      ∀ s : State, exec i s = .next (Spec.subtracted s d8 (k s)))

/-- R154, R155, R156: `CP` in its three variants: the flags of `SUB`, and no register but F is written. -/
def Obligations.CompareResults : Prop :=
  (∀ (i : Instr) (r : R8), i.form = .aluReg .cp r →
    encode i = [0b10111#5 ++ r.code] ∧ i.cost = 4 ∧
    ∀ s : State, exec i s = .next { s with f := Spec.subFlags s.a (s.reg r.reg) 0 }) ∧
  encode .cp_a_atHL = [0xBE] ∧ Instr.cp_a_atHL.cost = 8 ∧
  (∀ s : State, exec .cp_a_atHL s = .next { s with f := Spec.subFlags s.a (s.memRead (Spec.hl s)) 0 }) ∧
  ∀ d8 : Byte, encode (.cp_a_d8 d8) = [0xFE, d8] ∧ (Instr.cp_a_d8 d8).cost = 8 ∧
    ∀ s : State, exec (.cp_a_d8 d8) s = .next { s with f := Spec.subFlags s.a d8 0 }

/-- R123, R145 to R153: `AND`, `XOR` and `OR` in their three variants, `g` being the bitwise operation and `hf` the
half-carry it leaves. -/
def Obligations.LogicResults : Prop :=
  ∀ (op : AluOp) (g : Byte → Byte → Byte) (hf : Bool),
    (op = .and ∧ g = (· &&& ·) ∧ hf = true) ∨ (op = .xor ∧ g = (· ^^^ ·) ∧ hf = false) ∨
      (op = .or ∧ g = (· ||| ·) ∧ hf = false) →
    (∀ (i : Instr) (r : R8), i.form = .aluReg op r →
      encode i = [0b10#2 ++ op.code ++ r.code] ∧ i.cost = 4 ∧
      ∀ s : State, exec i s = .next (Spec.logic s (g s.a (s.reg r.reg)) hf)) ∧
    (∀ i : Instr, i.form = .aluHL op →
      encode i = [0b10#2 ++ op.code ++ 0b110#3] ∧ i.cost = 8 ∧
      ∀ s : State, exec i s = .next (Spec.logic s (g s.a (s.memRead (Spec.hl s))) hf)) ∧
    (∀ (i : Instr) (d8 : Byte), i.form = .aluImm op d8 →
      encode i = [0b11#2 ++ op.code ++ 0b110#3, d8] ∧ i.cost = 8 ∧
      ∀ s : State, exec i s = .next (Spec.logic s (g s.a d8) hf))

/-- R158: the laws of the family: the Z laws of `INC` and `DEC`; `INC` then `DEC` restores the register and Cy but sets N;
`CP` leaves A and gives the flags of `SUB`; `XOR A,A` gives A=0, Z=1, N=H=C=0; subtraction undoes addition. -/
def Obligations.ArithmeticFamilyLaws : Prop :=
  (∀ (i j : Instr) (r : R8) (s t u : State), i.form = .incReg r → j.form = .decReg r →
    exec i s = .next t → exec j s = .next u →
    (t.flagZ = true ↔ ((s.reg r.reg).toNat + 1) % 256 = 0) ∧
    (u.flagZ = true ↔ ((s.reg r.reg).toNat + 255) % 256 = 0) ∧
    ∃ v, exec j t = .next v ∧ v.reg r.reg = s.reg r.reg ∧ v.flagC = s.flagC ∧ v.flagN = true) ∧
  (∀ (i j : Instr) (s t u : State),
    ((∃ r : R8, i.form = .aluReg .cp r ∧ j.form = .aluReg .sub r) ∨ (i.form = .aluHL .cp ∧ j.form = .aluHL .sub) ∨
      (∃ v : Byte, i.form = .aluImm .cp v ∧ j.form = .aluImm .sub v)) →
    exec i s = .next t → exec j s = .next u → t.a = s.a ∧ t.f = u.f) ∧
  (∀ s : State, exec .xor_a_a s = .next { s with a := 0x00, f := 0x80 }) ∧
  (∀ (a v : Byte) (cin : Bool), (sub8 (add8 a v cin).res v cin).res = a)

/-! ## Encoding -/

/-- Decoding and encoding agree both ways: a list of bytes decodes to an instruction and a rest exactly when it is that
instruction's bytes followed by that rest. -/
def Obligations.DecodeExactlyInvertsEncode : Prop :=
  ∀ (bytes : List Byte) (i : Instr) (rest : List Byte), decode bytes = .ok (i, rest) ↔ bytes = encode i ++ rest

/-- R51 to R54: the opcode map read byte by byte agrees, on every byte, with the reading of the opcode as fields. -/
def Obligations.DecodeAgreesWithFields : Prop :=
  ∀ op b1 b2 : Byte,
    match decode [op, b1, b2] with
    | .ok (i, _) => fieldForm op b1 b2 = some i.form
    | .error e => fieldForm op b1 b2 = none ∧ e = .unmapped op

/-- R57, R58: a byte decodes to no instruction exactly when it is one of the 69 unmapped bytes; else the instruction's
length is the one the opcode byte tells. -/
def Obligations.OpcodeTellsLength : Prop :=
  ∀ op b1 b2 : Byte,
    (op ∈ Spec.unmapped ∧ decode [op, b1, b2] = .error (.unmapped op)) ∨
    (op ∉ Spec.unmapped ∧ ∃ i, decode [op, b1, b2] = .ok (i, [op, b1, b2].drop (Spec.lengthOf op)) ∧
      i.length = Spec.lengthOf op)

/-- Words written out from the encodings of R51 and R61 decode to the instructions they stand for. -/
def Obligations.SampleWordsDecode : Prop :=
  decode [0b00000000] = .ok (.nop, []) ∧
  decode [0b01000001] = .ok (.ld_b_c, []) ∧
  decode [0b00111110, 0x42] = .ok (.ld_a_d8 0x42, []) ∧
  decode [0b11101010, 0xCD, 0xAB] = .ok (.ld_atA16_a 0xABCD, []) ∧
  decode [0b00000001, 0x34, 0x12] = .ok (.ld_bc_d16 0x1234, []) ∧
  decode [0b11000101] = .ok (.push_bc, []) ∧
  decode [0b11110001] = .ok (.pop_af, []) ∧
  decode [0b10000000] = .ok (.add_a_b, []) ∧
  decode [0b11011110, 0x3A] = .ok (.sbc_a_d8 0x3A, []) ∧
  decode [0b00110101] = .ok (.dec_atHL, []) ∧
  decode [0b01110110] = .error (.unmapped 0x76)

/-! ## The host's operations -/

/-- R192: `loadImage` of at most 65280 bytes copies them from 0x0100 upward, leaves every other byte and the core, and
returns the count; a longer image is refused with the state as it was. -/
def Obligations.LoadImageCopiesOrRefuses : Prop :=
  ∀ (bytes : List Byte) (s : State),
    (bytes.length ≤ 65280 →
      (loadImage bytes s).1 = .ok bytes.length ∧
      (∀ k : Nat, ∀ h : k < bytes.length, (loadImage bytes s).2.memRead (BitVec.ofNat 16 (0x0100 + k)) = bytes[k]) ∧
      (∀ addr : Word, addr.toNat < 0x0100 ∨ 0x0100 + bytes.length ≤ addr.toNat →
        (loadImage bytes s).2.memRead addr = s.memRead addr) ∧
      { (loadImage bytes s).2 with mem := s.mem } = s) ∧
    (65280 < bytes.length → loadImage bytes s = (.error .imageTooLarge, s))

/-- R193: `loadImage` and the reset of the core may come in either order, and then the first instruction fetched is at
0x0100, the first byte of the image. -/
def Obligations.BootOrderDoesNotMatter : Prop :=
  ∀ (bytes : List Byte) (s : State),
    (loadImage bytes s.resetCore).2 = (loadImage bytes s).2.resetCore ∧
    (loadImage bytes s.resetCore).2.pc = 0x0100 ∧
    (∀ h : 0 < bytes.length, bytes.length ≤ 65280 → (fetch8 (loadImage bytes s.resetCore).2).1 = bytes[0])
end

