-- ==== Sys2Proof/Laws/State.lean ====
section
/-! SUPPORT. One lemma per field per update of State, and the register read after a register write. -/

namespace Sys2Proof.Machine

@[simp] theorem State.memWrite_a (s : State) (addr : Word) (v : Byte) : (s.memWrite addr v).a = s.a := rfl
@[simp] theorem State.memWrite_f (s : State) (addr : Word) (v : Byte) : (s.memWrite addr v).f = s.f := rfl
@[simp] theorem State.memWrite_b (s : State) (addr : Word) (v : Byte) : (s.memWrite addr v).b = s.b := rfl
@[simp] theorem State.memWrite_c (s : State) (addr : Word) (v : Byte) : (s.memWrite addr v).c = s.c := rfl
@[simp] theorem State.memWrite_d (s : State) (addr : Word) (v : Byte) : (s.memWrite addr v).d = s.d := rfl
@[simp] theorem State.memWrite_e (s : State) (addr : Word) (v : Byte) : (s.memWrite addr v).e = s.e := rfl
@[simp] theorem State.memWrite_h (s : State) (addr : Word) (v : Byte) : (s.memWrite addr v).h = s.h := rfl
@[simp] theorem State.memWrite_l (s : State) (addr : Word) (v : Byte) : (s.memWrite addr v).l = s.l := rfl
@[simp] theorem State.memWrite_sp (s : State) (addr : Word) (v : Byte) : (s.memWrite addr v).sp = s.sp := rfl
@[simp] theorem State.memWrite_pc (s : State) (addr : Word) (v : Byte) : (s.memWrite addr v).pc = s.pc := rfl
@[simp] theorem State.memWrite_ime (s : State) (addr : Word) (v : Byte) : (s.memWrite addr v).ime = s.ime := rfl
@[simp] theorem State.memWrite_halted (s : State) (addr : Word) (v : Byte) : (s.memWrite addr v).halted = s.halted := rfl
@[simp] theorem State.memWrite_cycles (s : State) (addr : Word) (v : Byte) : (s.memWrite addr v).cycles = s.cycles := rfl
@[simp] theorem State.memWrite_cycw (s : State) (addr : Word) (v : Byte) : (s.memWrite addr v).cycw = s.cycw := rfl
@[simp] theorem State.memWrite_mem (s : State) (addr : Word) (v : Byte) :
    (s.memWrite addr v).mem = s.mem.write addr.toNat v := rfl
@[simp] theorem State.memWrite_reg (s : State) (addr : Word) (v : Byte) (r : Reg) :
    (s.memWrite addr v).reg r = s.reg r := by cases r <;> rfl

@[simp] theorem State.memWrite16_a (s : State) (addr v : Word) : (s.memWrite16 addr v).a = s.a := rfl
@[simp] theorem State.memWrite16_f (s : State) (addr v : Word) : (s.memWrite16 addr v).f = s.f := rfl
@[simp] theorem State.memWrite16_b (s : State) (addr v : Word) : (s.memWrite16 addr v).b = s.b := rfl
@[simp] theorem State.memWrite16_c (s : State) (addr v : Word) : (s.memWrite16 addr v).c = s.c := rfl
@[simp] theorem State.memWrite16_d (s : State) (addr v : Word) : (s.memWrite16 addr v).d = s.d := rfl
@[simp] theorem State.memWrite16_e (s : State) (addr v : Word) : (s.memWrite16 addr v).e = s.e := rfl
@[simp] theorem State.memWrite16_h (s : State) (addr v : Word) : (s.memWrite16 addr v).h = s.h := rfl
@[simp] theorem State.memWrite16_l (s : State) (addr v : Word) : (s.memWrite16 addr v).l = s.l := rfl
@[simp] theorem State.memWrite16_sp (s : State) (addr v : Word) : (s.memWrite16 addr v).sp = s.sp := rfl
@[simp] theorem State.memWrite16_pc (s : State) (addr v : Word) : (s.memWrite16 addr v).pc = s.pc := rfl
@[simp] theorem State.memWrite16_ime (s : State) (addr v : Word) : (s.memWrite16 addr v).ime = s.ime := rfl
@[simp] theorem State.memWrite16_halted (s : State) (addr v : Word) : (s.memWrite16 addr v).halted = s.halted := rfl
@[simp] theorem State.memWrite16_cycles (s : State) (addr v : Word) : (s.memWrite16 addr v).cycles = s.cycles := rfl
@[simp] theorem State.memWrite16_cycw (s : State) (addr v : Word) : (s.memWrite16 addr v).cycw = s.cycw := rfl

@[simp] theorem State.setSp_a (s : State) (v : Word) : (s.setSp v).a = s.a := rfl
@[simp] theorem State.setSp_f (s : State) (v : Word) : (s.setSp v).f = s.f := rfl
@[simp] theorem State.setSp_b (s : State) (v : Word) : (s.setSp v).b = s.b := rfl
@[simp] theorem State.setSp_c (s : State) (v : Word) : (s.setSp v).c = s.c := rfl
@[simp] theorem State.setSp_d (s : State) (v : Word) : (s.setSp v).d = s.d := rfl
@[simp] theorem State.setSp_e (s : State) (v : Word) : (s.setSp v).e = s.e := rfl
@[simp] theorem State.setSp_h (s : State) (v : Word) : (s.setSp v).h = s.h := rfl
@[simp] theorem State.setSp_l (s : State) (v : Word) : (s.setSp v).l = s.l := rfl
@[simp] theorem State.setSp_sp (s : State) (v : Word) : (s.setSp v).sp = v := rfl
@[simp] theorem State.setSp_pc (s : State) (v : Word) : (s.setSp v).pc = s.pc := rfl
@[simp] theorem State.setSp_ime (s : State) (v : Word) : (s.setSp v).ime = s.ime := rfl
@[simp] theorem State.setSp_halted (s : State) (v : Word) : (s.setSp v).halted = s.halted := rfl
@[simp] theorem State.setSp_cycles (s : State) (v : Word) : (s.setSp v).cycles = s.cycles := rfl
@[simp] theorem State.setSp_cycw (s : State) (v : Word) : (s.setSp v).cycw = s.cycw := rfl
@[simp] theorem State.setSp_mem (s : State) (v : Word) : (s.setSp v).mem = s.mem := rfl
@[simp] theorem State.setSp_reg (s : State) (v : Word) (r : Reg) : (s.setSp v).reg r = s.reg r := by cases r <;> rfl
@[simp] theorem State.setSp_memRead (s : State) (v : Word) (addr : Word) : (s.setSp v).memRead addr = s.memRead addr := rfl

@[simp] theorem State.setPc_a (s : State) (v : Word) : (s.setPc v).a = s.a := rfl
@[simp] theorem State.setPc_f (s : State) (v : Word) : (s.setPc v).f = s.f := rfl
@[simp] theorem State.setPc_b (s : State) (v : Word) : (s.setPc v).b = s.b := rfl
@[simp] theorem State.setPc_c (s : State) (v : Word) : (s.setPc v).c = s.c := rfl
@[simp] theorem State.setPc_d (s : State) (v : Word) : (s.setPc v).d = s.d := rfl
@[simp] theorem State.setPc_e (s : State) (v : Word) : (s.setPc v).e = s.e := rfl
@[simp] theorem State.setPc_h (s : State) (v : Word) : (s.setPc v).h = s.h := rfl
@[simp] theorem State.setPc_l (s : State) (v : Word) : (s.setPc v).l = s.l := rfl
@[simp] theorem State.setPc_sp (s : State) (v : Word) : (s.setPc v).sp = s.sp := rfl
@[simp] theorem State.setPc_pc (s : State) (v : Word) : (s.setPc v).pc = v := rfl
@[simp] theorem State.setPc_ime (s : State) (v : Word) : (s.setPc v).ime = s.ime := rfl
@[simp] theorem State.setPc_halted (s : State) (v : Word) : (s.setPc v).halted = s.halted := rfl
@[simp] theorem State.setPc_cycles (s : State) (v : Word) : (s.setPc v).cycles = s.cycles := rfl
@[simp] theorem State.setPc_cycw (s : State) (v : Word) : (s.setPc v).cycw = s.cycw := rfl
@[simp] theorem State.setPc_mem (s : State) (v : Word) : (s.setPc v).mem = s.mem := rfl
@[simp] theorem State.setPc_reg (s : State) (v : Word) (r : Reg) : (s.setPc v).reg r = s.reg r := by cases r <;> rfl
@[simp] theorem State.setPc_memRead (s : State) (v : Word) (addr : Word) : (s.setPc v).memRead addr = s.memRead addr := rfl

@[simp] theorem State.charge_a (s : State) (n : Nat) : (s.charge n).a = s.a := rfl
@[simp] theorem State.charge_f (s : State) (n : Nat) : (s.charge n).f = s.f := rfl
@[simp] theorem State.charge_b (s : State) (n : Nat) : (s.charge n).b = s.b := rfl
@[simp] theorem State.charge_c (s : State) (n : Nat) : (s.charge n).c = s.c := rfl
@[simp] theorem State.charge_d (s : State) (n : Nat) : (s.charge n).d = s.d := rfl
@[simp] theorem State.charge_e (s : State) (n : Nat) : (s.charge n).e = s.e := rfl
@[simp] theorem State.charge_h (s : State) (n : Nat) : (s.charge n).h = s.h := rfl
@[simp] theorem State.charge_l (s : State) (n : Nat) : (s.charge n).l = s.l := rfl
@[simp] theorem State.charge_sp (s : State) (n : Nat) : (s.charge n).sp = s.sp := rfl
@[simp] theorem State.charge_pc (s : State) (n : Nat) : (s.charge n).pc = s.pc := rfl
@[simp] theorem State.charge_ime (s : State) (n : Nat) : (s.charge n).ime = s.ime := rfl
@[simp] theorem State.charge_halted (s : State) (n : Nat) : (s.charge n).halted = s.halted := rfl
@[simp] theorem State.charge_cycles (s : State) (n : Nat) : (s.charge n).cycles = addCycles s.cycw s.cycles n := rfl
@[simp] theorem State.charge_cycw (s : State) (n : Nat) : (s.charge n).cycw = s.cycw := rfl
@[simp] theorem State.charge_mem (s : State) (n : Nat) : (s.charge n).mem = s.mem := rfl

@[simp] theorem State.setReg_sp (s : State) (r : Reg) (v : Byte) : (s.setReg r v).sp = s.sp := by cases r <;> rfl
@[simp] theorem State.setReg_pc (s : State) (r : Reg) (v : Byte) : (s.setReg r v).pc = s.pc := by cases r <;> rfl
@[simp] theorem State.setReg_ime (s : State) (r : Reg) (v : Byte) : (s.setReg r v).ime = s.ime := by cases r <;> rfl
@[simp] theorem State.setReg_halted (s : State) (r : Reg) (v : Byte) : (s.setReg r v).halted = s.halted := by cases r <;> rfl
@[simp] theorem State.setReg_cycles (s : State) (r : Reg) (v : Byte) : (s.setReg r v).cycles = s.cycles := by cases r <;> rfl
@[simp] theorem State.setReg_cycw (s : State) (r : Reg) (v : Byte) : (s.setReg r v).cycw = s.cycw := by cases r <;> rfl
@[simp] theorem State.setReg_mem (s : State) (r : Reg) (v : Byte) : (s.setReg r v).mem = s.mem := by cases r <;> rfl
@[simp] theorem State.setReg_memRead (s : State) (r : Reg) (v : Byte) (addr : Word) :
    (s.setReg r v).memRead addr = s.memRead addr := by cases r <;> rfl

/-- A register read after a register write; a write to F keeps the upper four bits (R16). -/
theorem State.setReg_reg (s : State) (r other : Reg) (v : Byte) :
    (s.setReg r v).reg other = if other = r then (if r = .f then v &&& 0xF0 else v) else s.reg other := by
  cases r <;> cases other <;> rfl

theorem State.setReg_reg_of_ne (s : State) {r other : Reg} (v : Byte) (h : other ≠ r) :
    (s.setReg r v).reg other = s.reg other := by
  rw [State.setReg_reg, if_neg h]

/-- An r8 operand is never F, so its write stores the whole byte. -/
@[simp] theorem R8.reg_ne_f (r : R8) : r.reg ≠ .f := by cases r <;> decide

@[simp] theorem State.setReg_f_of_r8 (s : State) (r : R8) (v : Byte) : (s.setReg r.reg v).f = s.f := by
  cases r <;> rfl

theorem State.f_eq_reg (s : State) : s.f = s.reg .f := rfl

@[simp] theorem State.setPair_sp (s : State) (p : Pair) (v : Word) : (s.setPair p v).sp = s.sp := by cases p <;> rfl
@[simp] theorem State.setPair_pc (s : State) (p : Pair) (v : Word) : (s.setPair p v).pc = s.pc := by cases p <;> rfl
@[simp] theorem State.setPair_ime (s : State) (p : Pair) (v : Word) : (s.setPair p v).ime = s.ime := by cases p <;> rfl
@[simp] theorem State.setPair_halted (s : State) (p : Pair) (v : Word) : (s.setPair p v).halted = s.halted := by cases p <;> rfl
@[simp] theorem State.setPair_cycles (s : State) (p : Pair) (v : Word) : (s.setPair p v).cycles = s.cycles := by cases p <;> rfl
@[simp] theorem State.setPair_cycw (s : State) (p : Pair) (v : Word) : (s.setPair p v).cycw = s.cycw := by cases p <;> rfl
@[simp] theorem State.setPair_mem (s : State) (p : Pair) (v : Word) : (s.setPair p v).mem = s.mem := by cases p <;> rfl

@[simp] theorem State.setFlags_a (s : State) (z n hf cy : Bool) : (s.setFlags z n hf cy).a = s.a := rfl
@[simp] theorem State.setFlags_b (s : State) (z n hf cy : Bool) : (s.setFlags z n hf cy).b = s.b := rfl
@[simp] theorem State.setFlags_c (s : State) (z n hf cy : Bool) : (s.setFlags z n hf cy).c = s.c := rfl
@[simp] theorem State.setFlags_d (s : State) (z n hf cy : Bool) : (s.setFlags z n hf cy).d = s.d := rfl
@[simp] theorem State.setFlags_e (s : State) (z n hf cy : Bool) : (s.setFlags z n hf cy).e = s.e := rfl
@[simp] theorem State.setFlags_h (s : State) (z n hf cy : Bool) : (s.setFlags z n hf cy).h = s.h := rfl
@[simp] theorem State.setFlags_l (s : State) (z n hf cy : Bool) : (s.setFlags z n hf cy).l = s.l := rfl
@[simp] theorem State.setFlags_sp (s : State) (z n hf cy : Bool) : (s.setFlags z n hf cy).sp = s.sp := rfl
@[simp] theorem State.setFlags_pc (s : State) (z n hf cy : Bool) : (s.setFlags z n hf cy).pc = s.pc := rfl
@[simp] theorem State.setFlags_ime (s : State) (z n hf cy : Bool) : (s.setFlags z n hf cy).ime = s.ime := rfl
@[simp] theorem State.setFlags_halted (s : State) (z n hf cy : Bool) : (s.setFlags z n hf cy).halted = s.halted := rfl
@[simp] theorem State.setFlags_cycles (s : State) (z n hf cy : Bool) : (s.setFlags z n hf cy).cycles = s.cycles := rfl
@[simp] theorem State.setFlags_cycw (s : State) (z n hf cy : Bool) : (s.setFlags z n hf cy).cycw = s.cycw := rfl
@[simp] theorem State.setFlags_mem (s : State) (z n hf cy : Bool) : (s.setFlags z n hf cy).mem = s.mem := rfl

/-- A flag byte already has a zero low nibble, so writing it to F stores it whole. -/
theorem flagsByte_mask (z n hf cy : Bool) : flagsByte z n hf cy &&& 0xF0 = flagsByte z n hf cy := by
  cases z <;> cases n <;> cases hf <;> cases cy <;> rfl

@[simp] theorem State.setFlags_f (s : State) (z n hf cy : Bool) : (s.setFlags z n hf cy).f = flagsByte z n hf cy :=
  flagsByte_mask z n hf cy

theorem flagsByte_low_nibble (z n hf cy : Bool) : flagsByte z n hf cy &&& 0x0F = 0 := by
  cases z <;> cases n <;> cases hf <;> cases cy <;> rfl

/-- Every write to F leaves its low nibble zero (R16). -/
theorem mask_low_nibble (v : Byte) : v &&& 0xF0 &&& 0x0F = 0 := by
  rw [BitVec.and_assoc]; exact BitVec.and_zero

theorem toNat_wordOf (hi lo : Byte) : (wordOf hi lo).toNat = hi.toNat * 256 + lo.toNat := by
  unfold wordOf
  rw [BitVec.toNat_append, ← Nat.shiftLeft_add_eq_or_of_lt lo.isLt, Nat.shiftLeft_eq]

theorem toNat_hiByte (w : Word) : (hiByte w).toNat = w.toNat / 256 := by
  have := w.isLt
  simp only [hiByte, BitVec.extractLsb'_toNat, Nat.shiftRight_eq_div_pow]
  omega

theorem toNat_loByte (w : Word) : (loByte w).toNat = w.toNat % 256 := by
  simp only [loByte, BitVec.extractLsb'_toNat, Nat.shiftRight_zero]

/-- `h:l = h * 256 + l` (R8). -/
theorem wordOf_eq_ofNat (hi lo : Byte) : wordOf hi lo = BitVec.ofNat 16 (hi.toNat * 256 + lo.toNat) := by
  apply BitVec.eq_of_toNat_eq
  have := hi.isLt
  have := lo.isLt
  rw [toNat_wordOf, BitVec.toNat_ofNat, Nat.mod_eq_of_lt (by omega)]

@[simp] theorem wordOf_hiByte_loByte (w : Word) : wordOf (hiByte w) (loByte w) = w := by
  apply BitVec.eq_of_toNat_eq
  rw [toNat_wordOf, toNat_hiByte, toNat_loByte]
  omega

@[simp] theorem hiByte_wordOf (hi lo : Byte) : hiByte (wordOf hi lo) = hi := by
  apply BitVec.eq_of_toNat_eq
  have := lo.isLt
  rw [toNat_hiByte, toNat_wordOf]
  omega

@[simp] theorem loByte_wordOf (hi lo : Byte) : loByte (wordOf hi lo) = lo := by
  apply BitVec.eq_of_toNat_eq
  have := lo.isLt
  rw [toNat_loByte, toNat_wordOf]
  omega

end Sys2Proof.Machine
end

