-- ==== Sys2Proof/Laws/Memory.lean ====
section
/-! SUPPORT. The memory array: read after write, the canonical form, and that equal contents are equal data. -/

namespace Sys2Proof.Machine

/-! ## Read after write -/

theorem Memory.read_remove (m : Memory) (a b : Nat) :
    Memory.read (Memory.remove m a) b = if b = a then Config.powerOnByte else Memory.read m b := by
  induction m with
  | nil => simp [Memory.remove, Memory.read]
  | cons kv rest ih =>
    obtain ⟨k, v⟩ := kv
    by_cases hk : k = a
    · by_cases hb : b = a <;> simp_all [Memory.remove, Memory.read, eq_comm]
    · by_cases hb : b = a <;> simp_all [Memory.remove, Memory.read]

theorem Memory.read_put (m : Memory) (a b : Nat) (v : Byte) (hk : ∀ w, (a, w) ∉ m) :
    Memory.read (Memory.put m a v) b = if b = a then v else Memory.read m b := by
  induction m with
  | nil => simp only [Memory.put, Memory.read, eq_comm]
  | cons kw rest ih =>
    obtain ⟨k, w⟩ := kw
    have hne : k ≠ a := fun e => hk w (by simp [e])
    have ih := ih fun w hw => hk w (List.mem_cons_of_mem _ hw)
    by_cases hlt : a < k
    · simp only [Memory.put, if_pos hlt, Memory.read, eq_comm]
    · simp only [Memory.put, if_neg hlt, Memory.read, ih]
      by_cases hb : b = a
      · simp [hb, hne]
      · simp [hb]

theorem Memory.not_mem_remove (m : Memory) (a : Nat) (w : Byte) : (a, w) ∉ Memory.remove m a := by
  induction m with
  | nil => simp [Memory.remove]
  | cons kv rest ih =>
    obtain ⟨k, v⟩ := kv
    by_cases hk : k = a
    · simpa [Memory.remove, hk] using ih
    · simp [Memory.remove, hk, ih, Ne.symm hk]

/-- A byte read after a byte written, at any address (R32). -/
theorem Memory.read_write (m : Memory) (a b : Nat) (v : Byte) :
    Memory.read (Memory.write m a v) b = if b = a then v else Memory.read m b := by
  unfold Memory.write
  split
  · next h => rw [Memory.read_remove, h]
  · rw [Memory.read_put _ _ _ _ (Memory.not_mem_remove m a), Memory.read_remove]
    split <;> rfl

theorem State.memRead_memWrite (s : State) (addr other : Word) (v : Byte) :
    (s.memWrite addr v).memRead other = if other = addr then v else s.memRead other := by
  simp only [State.memRead, State.memWrite, Memory.read_write, BitVec.toNat_inj]

@[simp] theorem State.memRead_memWrite_same (s : State) (addr : Word) (v : Byte) :
    (s.memWrite addr v).memRead addr = v := by
  rw [State.memRead_memWrite, if_pos rfl]

theorem State.memRead_memWrite_of_ne (s : State) {addr other : Word} (v : Byte) (h : other ≠ addr) :
    (s.memWrite addr v).memRead other = s.memRead other := by
  rw [State.memRead_memWrite, if_neg h]

/-! ## The canonical form -/

theorem Memory.wfFrom_mono {a b : Nat} {m : Memory} (hab : a ≤ b) (h : Memory.wfFrom b m = true) :
    Memory.wfFrom a m = true := by
  cases m with
  | nil => rfl
  | cons kv rest =>
    obtain ⟨k, v⟩ := kv
    simp only [Memory.wfFrom, Bool.and_eq_true, decide_eq_true_eq] at h ⊢
    exact ⟨⟨⟨hab.trans h.1.1.1, h.1.1.2⟩, h.1.2⟩, h.2⟩

theorem Memory.wfFrom_remove {least : Nat} {m : Memory} (a : Nat) (h : Memory.wfFrom least m = true) :
    Memory.wfFrom least (Memory.remove m a) = true := by
  induction m generalizing least with
  | nil => rfl
  | cons kv rest ih =>
    obtain ⟨k, v⟩ := kv
    simp only [Memory.wfFrom, Bool.and_eq_true, decide_eq_true_eq] at h
    unfold Memory.remove
    split
    · exact Memory.wfFrom_mono (by omega) (ih h.2)
    · simp only [Memory.wfFrom, Bool.and_eq_true, decide_eq_true_eq]
      exact ⟨h.1, ih h.2⟩

theorem Memory.wfFrom_put {least : Nat} {m : Memory} {a : Nat} {v : Byte} (h : Memory.wfFrom least m = true)
    (ha : a < Config.addressSpace) (hl : least ≤ a) (hv : v ≠ Config.powerOnByte) (hk : ∀ w, (a, w) ∉ m) :
    Memory.wfFrom least (Memory.put m a v) = true := by
  induction m generalizing least with
  | nil => simp [Memory.put, Memory.wfFrom, ha, hl, hv]
  | cons kw rest ih =>
    obtain ⟨k, w⟩ := kw
    have hne : k ≠ a := fun e => hk w (by simp [e])
    simp only [Memory.wfFrom, Bool.and_eq_true, decide_eq_true_eq] at h
    unfold Memory.put
    split
    · next hlt =>
      simp only [Memory.wfFrom, Bool.and_eq_true, decide_eq_true_eq]
      exact ⟨⟨⟨hl, ha⟩, hv⟩, ⟨⟨hlt, h.1.1.2⟩, h.1.2⟩, h.2⟩
    · simp only [Memory.wfFrom, Bool.and_eq_true, decide_eq_true_eq]
      exact ⟨h.1, ih h.2 (by omega) fun w hw => hk w (List.mem_cons_of_mem _ hw)⟩

/-- A byte write keeps the canonical form. -/
theorem Memory.wf_write {m : Memory} (a : Nat) (v : Byte) (ha : a < Config.addressSpace) (h : m.wf = true) :
    (m.write a v).wf = true := by
  unfold Memory.write
  split
  · exact Memory.wfFrom_remove a h
  · next hv => exact Memory.wfFrom_put (Memory.wfFrom_remove a h) ha (Nat.zero_le a) hv (Memory.not_mem_remove m a)

theorem State.memWrite_wf {s : State} (addr : Word) (v : Byte) (h : s.mem.wf = true) :
    (s.memWrite addr v).mem.wf = true :=
  Memory.wf_write addr.toNat v addr.isLt h

theorem State.placeBytes_wf {s : State} (addr : Word) (bytes : List Byte) (h : s.mem.wf = true) :
    (s.placeBytes addr bytes).mem.wf = true := by
  induction bytes generalizing s addr with
  | nil => exact h
  | cons v rest ih => exact ih (addr + 1) (State.memWrite_wf addr v h)

/-- The array reads as the power-on byte below its first entry. -/
theorem Memory.read_below {least a : Nat} {m : Memory} (h : Memory.wfFrom least m = true) (ha : a < least) :
    Memory.read m a = Config.powerOnByte := by
  induction m generalizing least with
  | nil => rfl
  | cons kv rest ih =>
    obtain ⟨k, v⟩ := kv
    simp only [Memory.wfFrom, Bool.and_eq_true, decide_eq_true_eq] at h
    rw [Memory.read, if_neg (by omega)]
    exact ih h.2 (by omega)

end Sys2Proof.Machine
end

