-- ==== Sys2Proof/Laws/Bus.lean ====
section
/-! SUPPORT. What a list of bus accesses does to memory. -/

namespace Sys2Proof.Machine

/-- A list of accesses leaves every byte it does not store to. -/
theorem applyAccesses_frame (l : List Access) :
    ∀ (s : State) (addr : Word), addr ∉ storedAddrs l → (applyAccesses l s).memRead addr = s.memRead addr := by
  induction l with
  | nil => exact fun _ _ _ => rfl
  | cons x rest ih =>
    intro s addr h
    cases x with
    | rd b v => exact ih s addr h
    | wr b v =>
      simp only [storedAddrs, List.mem_cons, not_or] at h
      rw [applyAccesses, ih _ _ h.2, State.memRead_memWrite_of_ne _ _ h.1]

theorem applyAccesses_wf (l : List Access) :
    ∀ s : State, s.mem.wf = true → (applyAccesses l s).mem.wf = true := by
  induction l with
  | nil => exact fun _ h => h
  | cons x rest ih =>
    intro s h
    cases x with
    | rd b v => exact ih s h
    | wr b v => exact ih _ (State.memWrite_wf _ _ h)

end Sys2Proof.Machine
end

