-- ==== Sys2Proof/Laws/Exec.lean ====
section
/-! SUPPORT. What the shared operations do, once each, and the whole of `exec` by the 34 forms instead of the 187
constructors. -/

namespace Sys2Proof.Machine

/-! ## Shared operations -/

theorem push_eq (p : Pair) (s : State) :
    push p s = ((s.memWrite (s.sp - 1) (s.reg p.hi)).memWrite (s.sp - 2) (s.reg p.lo)).setSp (s.sp - 2) := by
  have h : s.sp - 1 - 1 = s.sp - 2 := by rw [BitVec.sub_sub]; rfl
  rw [← h]; cases p <;> rfl

theorem pop_eq (p : Pair) (s : State) :
    pop p s = ((s.setReg p.lo (s.memRead s.sp)).setReg p.hi (s.memRead (s.sp + 1))).setSp (s.sp + 2) := by
  have h : s.sp + 1 + 1 = s.sp + 2 := by rw [BitVec.add_assoc]; rfl
  rw [← h]; cases p <;> rfl

theorem setPair_eq (p : Pair) (v : Word) (s : State) :
    s.setPair p v = (s.setReg p.lo (loByte v)).setReg p.hi (hiByte v) := rfl

/-- A place is written either as a register or as the memory byte at its address. -/
theorem Loc.write_cases (p : Loc) (v : Byte) (s : State) :
    (∃ r, p = .reg r ∧ p.addr s = none ∧ p.write v s = s.setReg r v) ∨
    (∃ addr, p.addr s = some addr ∧ p.write v s = s.memWrite addr v) := by
  cases p with
  | reg r => exact .inl ⟨r, rfl, rfl, rfl⟩
  | atPair rr => exact .inr ⟨_, rfl, rfl⟩
  | zeroPage a8 => exact .inr ⟨_, rfl, rfl⟩
  | absolute a16 => exact .inr ⟨_, rfl, rfl⟩

theorem aluA_eq (op : AluOp) (src : Src) (s : State) :
    aluA op src s =
      (if aluWritesA op then s.setReg .a (aluResult op s.a (src.read s) s.flagC).res else s).setFlagsOf
        (aluResult op s.a (src.read s) s.flagC) := rfl

/-! ## Fields the shared operations leave -/

@[simp] theorem Loc.write_sp (p : Loc) (v : Byte) (s : State) : (p.write v s).sp = s.sp := by
  cases p <;> simp [Loc.write]
@[simp] theorem Loc.write_pc (p : Loc) (v : Byte) (s : State) : (p.write v s).pc = s.pc := by
  cases p <;> simp [Loc.write]
@[simp] theorem Loc.write_ime (p : Loc) (v : Byte) (s : State) : (p.write v s).ime = s.ime := by
  cases p <;> simp [Loc.write]
@[simp] theorem Loc.write_halted (p : Loc) (v : Byte) (s : State) : (p.write v s).halted = s.halted := by
  cases p <;> simp [Loc.write]
@[simp] theorem Loc.write_cycles (p : Loc) (v : Byte) (s : State) : (p.write v s).cycles = s.cycles := by
  cases p <;> simp [Loc.write]
@[simp] theorem Loc.write_cycw (p : Loc) (v : Byte) (s : State) : (p.write v s).cycw = s.cycw := by
  cases p <;> simp [Loc.write]

@[simp] theorem load8_sp (p : Loc) (x : Src) (s : State) : (load8 p x s).sp = s.sp := Loc.write_sp p _ s
@[simp] theorem load8_pc (p : Loc) (x : Src) (s : State) : (load8 p x s).pc = s.pc := Loc.write_pc p _ s
@[simp] theorem load8_ime (p : Loc) (x : Src) (s : State) : (load8 p x s).ime = s.ime := Loc.write_ime p _ s
@[simp] theorem load8_halted (p : Loc) (x : Src) (s : State) : (load8 p x s).halted = s.halted := Loc.write_halted p _ s
@[simp] theorem load8_cycles (p : Loc) (x : Src) (s : State) : (load8 p x s).cycles = s.cycles := Loc.write_cycles p _ s
@[simp] theorem load8_cycw (p : Loc) (x : Src) (s : State) : (load8 p x s).cycw = s.cycw := Loc.write_cycw p _ s

@[simp] theorem aluA_sp (op : AluOp) (x : Src) (s : State) : (aluA op x s).sp = s.sp := by cases op <;> rfl
@[simp] theorem aluA_pc (op : AluOp) (x : Src) (s : State) : (aluA op x s).pc = s.pc := by cases op <;> rfl
@[simp] theorem aluA_ime (op : AluOp) (x : Src) (s : State) : (aluA op x s).ime = s.ime := by cases op <;> rfl
@[simp] theorem aluA_halted (op : AluOp) (x : Src) (s : State) : (aluA op x s).halted = s.halted := by cases op <;> rfl
@[simp] theorem aluA_cycles (op : AluOp) (x : Src) (s : State) : (aluA op x s).cycles = s.cycles := by cases op <;> rfl
@[simp] theorem aluA_cycw (op : AluOp) (x : Src) (s : State) : (aluA op x s).cycw = s.cycw := by cases op <;> rfl
@[simp] theorem aluA_mem (op : AluOp) (x : Src) (s : State) : (aluA op x s).mem = s.mem := by cases op <;> rfl

@[simp] theorem incLoc_sp (p : Loc) (s : State) : (incLoc p s).sp = s.sp := Loc.write_sp p _ s
@[simp] theorem incLoc_pc (p : Loc) (s : State) : (incLoc p s).pc = s.pc := Loc.write_pc p _ s
@[simp] theorem incLoc_ime (p : Loc) (s : State) : (incLoc p s).ime = s.ime := Loc.write_ime p _ s
@[simp] theorem incLoc_halted (p : Loc) (s : State) : (incLoc p s).halted = s.halted := Loc.write_halted p _ s
@[simp] theorem incLoc_cycles (p : Loc) (s : State) : (incLoc p s).cycles = s.cycles := Loc.write_cycles p _ s
@[simp] theorem incLoc_cycw (p : Loc) (s : State) : (incLoc p s).cycw = s.cycw := Loc.write_cycw p _ s

@[simp] theorem decLoc_sp (p : Loc) (s : State) : (decLoc p s).sp = s.sp := Loc.write_sp p _ s
@[simp] theorem decLoc_pc (p : Loc) (s : State) : (decLoc p s).pc = s.pc := Loc.write_pc p _ s
@[simp] theorem decLoc_ime (p : Loc) (s : State) : (decLoc p s).ime = s.ime := Loc.write_ime p _ s
@[simp] theorem decLoc_halted (p : Loc) (s : State) : (decLoc p s).halted = s.halted := Loc.write_halted p _ s
@[simp] theorem decLoc_cycles (p : Loc) (s : State) : (decLoc p s).cycles = s.cycles := Loc.write_cycles p _ s
@[simp] theorem decLoc_cycw (p : Loc) (s : State) : (decLoc p s).cycw = s.cycw := Loc.write_cycw p _ s

@[simp] theorem push_pc (p : Pair) (s : State) : (push p s).pc = s.pc := by rw [push_eq]; simp
@[simp] theorem push_ime (p : Pair) (s : State) : (push p s).ime = s.ime := by rw [push_eq]; simp
@[simp] theorem push_halted (p : Pair) (s : State) : (push p s).halted = s.halted := by rw [push_eq]; simp
@[simp] theorem push_cycles (p : Pair) (s : State) : (push p s).cycles = s.cycles := by rw [push_eq]; simp
@[simp] theorem push_cycw (p : Pair) (s : State) : (push p s).cycw = s.cycw := by rw [push_eq]; simp

@[simp] theorem pop_pc (p : Pair) (s : State) : (pop p s).pc = s.pc := by rw [pop_eq]; simp
@[simp] theorem pop_ime (p : Pair) (s : State) : (pop p s).ime = s.ime := by rw [pop_eq]; simp
@[simp] theorem pop_halted (p : Pair) (s : State) : (pop p s).halted = s.halted := by rw [pop_eq]; simp
@[simp] theorem pop_cycles (p : Pair) (s : State) : (pop p s).cycles = s.cycles := by rw [pop_eq]; simp
@[simp] theorem pop_cycw (p : Pair) (s : State) : (pop p s).cycw = s.cycw := by rw [pop_eq]; simp

/-! ## F's low nibble (R16, R21) -/

theorem State.setReg_low_nibble {s : State} (r : Reg) (v : Byte) (h : s.f &&& 0x0F = 0) :
    (s.setReg r v).f &&& 0x0F = 0 := by
  cases r <;> first | exact h | exact mask_low_nibble v

theorem State.setFlags_low_nibble (s : State) (z n hf cy : Bool) : (s.setFlags z n hf cy).f &&& 0x0F = 0 := by
  rw [State.setFlags_f, flagsByte_low_nibble]

theorem Loc.write_low_nibble {s : State} (p : Loc) (v : Byte) (h : s.f &&& 0x0F = 0) :
    (p.write v s).f &&& 0x0F = 0 := by
  rcases Loc.write_cases p v s with ⟨r, -, -, e⟩ | ⟨a, -, e⟩ <;> rw [e]
  · exact State.setReg_low_nibble r v h
  · exact h

/-! ## The canonical form of memory -/

theorem Loc.write_wf {s : State} (p : Loc) (v : Byte) (h : s.mem.wf = true) : (p.write v s).mem.wf = true := by
  rcases Loc.write_cases p v s with ⟨r, -, -, e⟩ | ⟨a, -, e⟩ <;> rw [e]
  · simpa using h
  · exact State.memWrite_wf _ _ h

theorem push_wf {s : State} (p : Pair) (h : s.mem.wf = true) : (push p s).mem.wf = true := by
  rw [push_eq]; exact State.memWrite_wf _ _ (State.memWrite_wf _ _ h)

theorem pop_mem (p : Pair) (s : State) : (pop p s).mem = s.mem := by
  rw [pop_eq]; simp

/-! ## `exec` by forms -/

/-- The effect of each form. -/
def effect : Form → State → State
  | .nop, s => s
  | .ldRegReg r r2, s => load8 (.reg r.reg) (.loc (.reg r2.reg)) s
  | .ldRegHL r, s => load8 (.reg r.reg) (.loc (.atPair .hl)) s
  | .ldHLReg r, s => load8 (.atPair .hl) (.loc (.reg r.reg)) s
  | .ldRegImm r d8, s => load8 (.reg r.reg) (.imm d8) s
  | .ldHLImm d8, s => load8 (.atPair .hl) (.imm d8) s
  | .ldABC, s => load8 (.reg .a) (.loc (.atPair .bc)) s
  | .ldADE, s => load8 (.reg .a) (.loc (.atPair .de)) s
  | .ldBCA, s => load8 (.atPair .bc) (.loc (.reg .a)) s
  | .ldDEA, s => load8 (.atPair .de) (.loc (.reg .a)) s
  | .ldhALoad a8, s => load8 (.reg .a) (.loc (.zeroPage a8)) s
  | .ldhAStore a8, s => load8 (.zeroPage a8) (.loc (.reg .a)) s
  | .ldAAbs a16, s => load8 (.reg .a) (.loc (.absolute a16)) s
  | .ldAbsA a16, s => load8 (.absolute a16) (.loc (.reg .a)) s
  | .ldPairImm rr d16, s => s.setPair rr.pair d16
  | .ldSPImm d16, s => s.setSp d16
  | .ldAbsSP a16, s => s.memWrite16 a16 s.sp
  | .push rr, s => push rr.pair s
  | .pushAF, s => push .af s
  | .pop rr, s => pop rr.pair s
  | .popAF, s => pop .af s
  | .ldSPHL, s => s.setSp (s.pair .hl)
  | .ldHLSP s8, s => s.setPair .hl (spPlus s s8)
  | .incReg r, s => incLoc (.reg r.reg) s
  | .incHL, s => incLoc (.atPair .hl) s
  | .decReg r, s => decLoc (.reg r.reg) s
  | .decHL, s => decLoc (.atPair .hl) s
  | .daa, s => adjustA s
  | .scf, s => setCarry s
  | .cpl, s => complementA s
  | .ccf, s => complementCarry s
  | .aluReg op r, s => aluA op (.loc (.reg r.reg)) s
  | .aluHL op, s => aluA op (.loc (.atPair .hl)) s
  | .aluImm op d8, s => aluA op (.imm d8) s

/-- Every instruction answers a next state, its form's effect. -/
theorem exec_eq_effect (i : Instr) (s : State) : exec i s = .next (effect i.form s) := by
  cases i <;> rfl

@[simp] theorem effect_pc (f : Form) (s : State) : (effect f s).pc = s.pc := by
  cases f <;> simp [effect, adjustA, setCarry, complementA, complementCarry, State.setFlagsOf]

@[simp] theorem effect_ime (f : Form) (s : State) : (effect f s).ime = s.ime := by
  cases f <;> simp [effect, adjustA, setCarry, complementA, complementCarry, State.setFlagsOf]

@[simp] theorem effect_halted (f : Form) (s : State) : (effect f s).halted = s.halted := by
  cases f <;> simp [effect, adjustA, setCarry, complementA, complementCarry, State.setFlagsOf]

@[simp] theorem effect_cycles (f : Form) (s : State) : (effect f s).cycles = s.cycles := by
  cases f <;> simp [effect, adjustA, setCarry, complementA, complementCarry, State.setFlagsOf]

@[simp] theorem effect_cycw (f : Form) (s : State) : (effect f s).cycw = s.cycw := by
  cases f <;> simp [effect, adjustA, setCarry, complementA, complementCarry, State.setFlagsOf]

theorem exec_next_iff {i : Instr} {s t : State} : exec i s = .next t ↔ t = effect i.form s := by
  rw [exec_eq_effect]
  exact ⟨fun h => (Host.Outcome.next.inj h).symm, fun h => h ▸ rfl⟩

end Sys2Proof.Machine
end

