-- ==== Sys2Proof/Laws/Flags.lean ====
section
/-! SUPPORT. What the result and flag computations give, in natural numbers, and what the operations on A and F do to
the state, once each. -/

namespace Sys2Proof.Machine

/-! ## Reading back the flags -/

theorem flagZ_setFlagsOf (s : State) (r : AluResult) : (s.setFlagsOf r).flagZ = r.z := by
  rw [State.flagZ, State.setFlagsOf, State.setFlags_f]
  cases r.z <;> cases r.n <;> cases r.hf <;> cases r.cy <;> rfl

theorem flagC_setFlagsOf (s : State) (r : AluResult) : (s.setFlagsOf r).flagC = r.cy := by
  rw [State.flagC, State.setFlagsOf, State.setFlags_f]
  cases r.z <;> cases r.n <;> cases r.hf <;> cases r.cy <;> rfl

theorem setFlagsOf_reg_of_ne (s : State) (x : AluResult) {r : Reg} (h : r ≠ .f) :
    (s.setFlagsOf x).reg r = s.reg r := State.setReg_reg_of_ne s _ h

/-- Writing the flags replaces F by the byte of the four flags and touches nothing else. -/
theorem setFlagsOf_eq (s : State) (x : AluResult) :
    s.setFlagsOf x = { s with f := flagsByte x.z x.n x.hf x.cy } := by
  simp only [State.setFlagsOf, State.setFlags, State.setReg]
  rw [flagsByte_mask]

/-- A byte whose low nibble is zero is the byte of its four flags (R16, R21). -/
theorem flagsByte_of_low_nibble {v : Byte} (h : v &&& 0x0F = 0) :
    flagsByte (v.getLsbD 7) (v.getLsbD 6) (v.getLsbD 5) (v.getLsbD 4) = v := by
  have all : ∀ n : Fin 256, (BitVec.ofFin n : Byte) &&& 0x0F = 0 →
      flagsByte ((BitVec.ofFin n : Byte).getLsbD 7) ((BitVec.ofFin n : Byte).getLsbD 6)
        ((BitVec.ofFin n : Byte).getLsbD 5) ((BitVec.ofFin n : Byte).getLsbD 4) = BitVec.ofFin n := by
    decide +kernel
  exact all v.toFin h

/-! ## The results in natural numbers -/

theorem beq_zero_eq_decide (r : Byte) : (r == 0) = decide (r.toNat = 0) := by
  rw [Bool.eq_iff_iff]
  simp [BitVec.toNat_eq]

/-- R121. -/
theorem add8_eq (a v : Byte) (c : Bool) :
    add8 a v c =
      ⟨BitVec.ofNat 8 (a.toNat + v.toNat + c.toNat), decide ((a.toNat + v.toNat + c.toNat) % 256 = 0), false,
        decide (a.toNat % 16 + v.toNat % 16 + c.toNat ≥ 16), decide (a.toNat + v.toNat + c.toNat ≥ 256)⟩ := by
  rw [add8]
  simp only [beq_zero_eq_decide, BitVec.toNat_ofNat]

/-- R122: the borrow forms of the two comparisons, in natural numbers. -/
theorem sub8_eq (a v : Byte) (c : Bool) :
    sub8 a v c =
      ⟨BitVec.ofNat 8 (a.toNat + 512 - v.toNat - c.toNat),
        decide ((a.toNat + 512 - v.toNat - c.toNat) % 256 = 0), true,
        decide (v.toNat % 16 + c.toNat > a.toNat % 16), decide (v.toNat + c.toNat > a.toNat)⟩ := by
  have hv := v.isLt
  have ha := a.isLt
  have hc : c.toNat ≤ 1 := by cases c <;> decide
  have hres : BitVec.ofInt 8 ((a.toNat : Int) - v.toNat - c.toNat) =
      BitVec.ofNat 8 (a.toNat + 512 - v.toNat - c.toNat) := by
    apply BitVec.eq_of_toNat_eq
    rw [BitVec.toNat_ofInt, BitVec.toNat_ofNat]
    omega
  rw [sub8]
  simp only [hres, beq_zero_eq_decide, BitVec.toNat_ofNat]
  congr 1 <;> (rw [Bool.eq_iff_iff]; simp only [decide_eq_true_eq]; omega)

/-- R124. -/
theorem inc8_eq (v : Byte) (cy : Bool) :
    inc8 v cy =
      ⟨BitVec.ofNat 8 ((v.toNat + 1) % 256), decide ((v.toNat + 1) % 256 = 0), false,
        decide ((v.toNat + 1) % 256 % 16 = 0), cy⟩ := by
  have hres : v + 1 = BitVec.ofNat 8 ((v.toNat + 1) % 256) := by
    apply BitVec.eq_of_toNat_eq
    simp
  rw [inc8, hres]
  simp only [beq_zero_eq_decide, BitVec.toNat_ofNat, Nat.mod_mod]
  rfl

/-- R124. -/
theorem dec8_eq (v : Byte) (cy : Bool) :
    dec8 v cy =
      ⟨BitVec.ofNat 8 ((v.toNat + 255) % 256), decide ((v.toNat + 255) % 256 = 0), true,
        decide ((v.toNat + 255) % 256 % 16 = 15), cy⟩ := by
  have hres : v - 1 = BitVec.ofNat 8 ((v.toNat + 255) % 256) := by
    apply BitVec.eq_of_toNat_eq
    simp [BitVec.toNat_sub]
    omega
  rw [dec8, hres]
  simp only [beq_zero_eq_decide, BitVec.toNat_ofNat, Nat.mod_mod]
  rfl

/-! ## The operations on A and F -/

/-- An accumulator operation that writes A changes A and F and nothing else. -/
theorem aluA_of_writes {op : AluOp} (x : Src) (s : State) (h : aluWritesA op = true) :
    aluA op x s =
      { s with
        a := (aluResult op s.a (x.read s) s.flagC).res
        f := flagsByte (aluResult op s.a (x.read s) s.flagC).z (aluResult op s.a (x.read s) s.flagC).n
          (aluResult op s.a (x.read s) s.flagC).hf (aluResult op s.a (x.read s) s.flagC).cy } := by
  rw [aluA_eq, if_pos h, setFlagsOf_eq]
  rfl

/-- `CP` changes F and nothing else (R154). -/
theorem aluA_cp (x : Src) (s : State) :
    aluA .cp x s =
      { s with
        f := flagsByte (sub8 s.a (x.read s) false).z (sub8 s.a (x.read s) false).n (sub8 s.a (x.read s) false).hf
          (sub8 s.a (x.read s) false).cy } := by
  rw [aluA_eq, if_neg (by decide), setFlagsOf_eq]
  rfl

/-- `DAA` changes A and F and nothing else (R129). -/
theorem adjustA_eq (s : State) :
    adjustA s =
      { s with
        a := (daa8 s.a s.flagN s.flagH s.flagC).res
        f := flagsByte (daa8 s.a s.flagN s.flagH s.flagC).z (daa8 s.a s.flagN s.flagH s.flagC).n
          (daa8 s.a s.flagN s.flagH s.flagC).hf (daa8 s.a s.flagN s.flagH s.flagC).cy } := by
  rw [adjustA, setFlagsOf_eq]
  rfl

theorem setCarry_eq (s : State) : setCarry s = { s with f := flagsByte s.flagZ false false true } := by
  simp only [setCarry, State.setFlags, State.setReg]
  rw [flagsByte_mask]

theorem complementCarry_eq (s : State) :
    complementCarry s = { s with f := flagsByte s.flagZ false false (!s.flagC) } := by
  simp only [complementCarry, State.setFlags, State.setReg]
  rw [flagsByte_mask]

theorem complementA_eq (s : State) :
    complementA s = { s with a := s.a ^^^ 0xFF, f := flagsByte s.flagZ true true s.flagC } := by
  simp only [complementA, State.setFlags, State.setReg]
  rw [flagsByte_mask]

/-- `INC` and `DEC` read the place, write it, and then write the flags. -/
theorem incLoc_eq (p : Loc) (s : State) :
    incLoc p s = (p.write (inc8 (p.read s) s.flagC).res s).setFlagsOf (inc8 (p.read s) s.flagC) := rfl

theorem decLoc_eq (p : Loc) (s : State) :
    decLoc p s = (p.write (dec8 (p.read s) s.flagC).res s).setFlagsOf (dec8 (p.read s) s.flagC) := rfl

end Sys2Proof.Machine
end

