-- ==== Sys2Proof/Laws/HostOps.lean ====
section
/-! SUPPORT. What placing bytes and the host's operations do, once each. -/

namespace Sys2Proof.Machine

/-- Placing bytes changes memory only. -/
theorem State.placeBytes_frame (bytes : List Byte) :
    ∀ (s : State) (addr : Word), { s.placeBytes addr bytes with mem := s.mem } = s := by
  induction bytes with
  | nil => exact fun _ _ => rfl
  | cons v rest ih =>
    intro s addr
    have h := ih (s.memWrite addr v) (addr + 1)
    rw [State.placeBytes]
    calc
      _ = { ({ (s.memWrite addr v).placeBytes (addr + 1) rest with mem := (s.memWrite addr v).mem } : State) with
            mem := s.mem } := rfl
      _ = s := by rw [h]; rfl

@[simp] theorem State.placeBytes_pc (s : State) (addr : Word) (bytes : List Byte) :
    (s.placeBytes addr bytes).pc = s.pc := by
  have h := congrArg State.pc (State.placeBytes_frame bytes s addr)
  exact h

/-- Below the end of memory, placed bytes are read back and every other byte is left. -/
theorem State.placeBytes_read (bytes : List Byte) :
    ∀ (s : State) (n : Nat), n + bytes.length ≤ 65536 →
      (∀ k, ∀ h : k < bytes.length,
        (s.placeBytes (BitVec.ofNat 16 n) bytes).memRead (BitVec.ofNat 16 (n + k)) = bytes[k]) ∧
      (∀ a : Word, a.toNat < n ∨ n + bytes.length ≤ a.toNat →
        (s.placeBytes (BitVec.ofNat 16 n) bytes).memRead a = s.memRead a) := by
  induction bytes with
  | nil => exact fun s n _ => ⟨fun k h => absurd h (Nat.not_lt_zero k), fun a _ => rfl⟩
  | cons v rest ih =>
    intro s n hn
    simp only [List.length_cons] at hn
    have e : BitVec.ofNat 16 n + 1 = BitVec.ofNat 16 (n + 1) := by
      apply BitVec.eq_of_toNat_eq
      simp
    obtain ⟨inside, outside⟩ := ih (s.memWrite (BitVec.ofNat 16 n) v) (n + 1) (by omega)
    rw [State.placeBytes, e]
    constructor
    · intro k hk
      cases k with
      | zero =>
        rw [outside _ (by left; rw [BitVec.toNat_ofNat]; omega)]
        simp
      | succ k =>
        have h := inside k (by simpa using hk)
        rw [show n + (k + 1) = n + 1 + k by omega]
        simpa using h
    · intro a ha
      simp only [List.length_cons] at ha
      rw [outside a (by omega), State.memRead_memWrite_of_ne]
      intro e
      rw [e, BitVec.toNat_ofNat] at ha
      omega

/-- What is placed depends on memory only. -/
theorem State.placeBytes_mem_congr (bytes : List Byte) :
    ∀ (s t : State) (addr : Word), s.mem = t.mem →
      (s.placeBytes addr bytes).mem = (t.placeBytes addr bytes).mem := by
  induction bytes with
  | nil => exact fun _ _ _ h => h
  | cons v rest ih => exact fun s t addr h => ih _ _ _ (by simp [h])

/-- Loading an image either places it whole at `IMAGE_BASE` or refuses it and changes nothing (R192). -/
theorem loadImage_cases (bytes : List Byte) (s : State) :
    (bytes.length ≤ Config.imageMax ∧
      loadImage bytes s = (.ok bytes.length, s.placeBytes Config.imageBase bytes)) ∨
    (Config.imageMax < bytes.length ∧ loadImage bytes s = (.error .imageTooLarge, s)) := by
  by_cases h : bytes.length ≤ Config.imageMax
  · exact .inl ⟨h, by rw [loadImage, if_pos (by simpa [imageWellFormed] using h)]⟩
  · exact .inr ⟨by omega, by rw [loadImage, if_neg (by simpa [imageWellFormed] using h)]⟩

end Sys2Proof.Machine
end

