-- ==== Sys2Proof/Laws/PerInstr.lean ====
section
/-! SUPPORT. The family RoundTrip of LAWS.json: for each instruction, its bytes followed by any others decode to it. -/

namespace Sys2Proof.Laws.RoundTrip

/-- Decoding the encoded instruction gives it back, with what follows it left over. -/
def Statement (i : Instr) : Prop := ∀ rest : List Byte, decode (encode i ++ rest) = .ok (i, rest)

/-- An instruction with no immediate. -/
theorem of_f1 {i : Instr} {op : Byte} (hd : dispatchEntry op = some (.f1 i)) (he : encode i = [op]) :
    Statement i := by
  intro rest
  simp [he, decode, hd]

/-- An instruction with one immediate byte. -/
theorem of_f2 {mk : Byte → Instr} {op v : Byte} (hd : dispatchEntry op = some (.f2 mk))
    (he : encode (mk v) = [op, v]) : Statement (mk v) := by
  intro rest
  simp [he, decode, hd]

/-- An instruction with a 16-bit immediate. -/
theorem of_f3 {mk : Word → Instr} {op : Byte} {w : Word} (hd : dispatchEntry op = some (.f3 mk))
    (he : encode (mk w) = [op, loByte w, hiByte w]) : Statement (mk w) := by
  intro rest
  simp [he, decode, hd, Machine.wordOf_hiByte_loByte]

theorem nop : Statement (.nop) := of_f1 (op := 0x00) rfl rfl
theorem ld_bc_d16 (d16 : Word) : Statement (.ld_bc_d16 d16) := of_f3 (mk := .ld_bc_d16) (op := 0x01) rfl rfl
theorem ld_atBC_a : Statement (.ld_atBC_a) := of_f1 (op := 0x02) rfl rfl
theorem inc_b : Statement (.inc_b) := of_f1 (op := 0x04) rfl rfl
theorem dec_b : Statement (.dec_b) := of_f1 (op := 0x05) rfl rfl
theorem ld_b_d8 (d8 : Byte) : Statement (.ld_b_d8 d8) := of_f2 (mk := .ld_b_d8) (op := 0x06) rfl rfl
theorem ld_atA16_sp (a16 : Word) : Statement (.ld_atA16_sp a16) := of_f3 (mk := .ld_atA16_sp) (op := 0x08) rfl rfl
theorem ld_a_atBC : Statement (.ld_a_atBC) := of_f1 (op := 0x0A) rfl rfl
theorem inc_c : Statement (.inc_c) := of_f1 (op := 0x0C) rfl rfl
theorem dec_c : Statement (.dec_c) := of_f1 (op := 0x0D) rfl rfl
theorem ld_c_d8 (d8 : Byte) : Statement (.ld_c_d8 d8) := of_f2 (mk := .ld_c_d8) (op := 0x0E) rfl rfl
theorem ld_de_d16 (d16 : Word) : Statement (.ld_de_d16 d16) := of_f3 (mk := .ld_de_d16) (op := 0x11) rfl rfl
theorem ld_atDE_a : Statement (.ld_atDE_a) := of_f1 (op := 0x12) rfl rfl
theorem inc_d : Statement (.inc_d) := of_f1 (op := 0x14) rfl rfl
theorem dec_d : Statement (.dec_d) := of_f1 (op := 0x15) rfl rfl
theorem ld_d_d8 (d8 : Byte) : Statement (.ld_d_d8 d8) := of_f2 (mk := .ld_d_d8) (op := 0x16) rfl rfl
theorem ld_a_atDE : Statement (.ld_a_atDE) := of_f1 (op := 0x1A) rfl rfl
theorem inc_e : Statement (.inc_e) := of_f1 (op := 0x1C) rfl rfl
theorem dec_e : Statement (.dec_e) := of_f1 (op := 0x1D) rfl rfl
theorem ld_e_d8 (d8 : Byte) : Statement (.ld_e_d8 d8) := of_f2 (mk := .ld_e_d8) (op := 0x1E) rfl rfl
theorem ld_hl_d16 (d16 : Word) : Statement (.ld_hl_d16 d16) := of_f3 (mk := .ld_hl_d16) (op := 0x21) rfl rfl
theorem inc_h : Statement (.inc_h) := of_f1 (op := 0x24) rfl rfl
theorem dec_h : Statement (.dec_h) := of_f1 (op := 0x25) rfl rfl
theorem ld_h_d8 (d8 : Byte) : Statement (.ld_h_d8 d8) := of_f2 (mk := .ld_h_d8) (op := 0x26) rfl rfl
theorem daa : Statement (.daa) := of_f1 (op := 0x27) rfl rfl
theorem inc_l : Statement (.inc_l) := of_f1 (op := 0x2C) rfl rfl
theorem dec_l : Statement (.dec_l) := of_f1 (op := 0x2D) rfl rfl
theorem ld_l_d8 (d8 : Byte) : Statement (.ld_l_d8 d8) := of_f2 (mk := .ld_l_d8) (op := 0x2E) rfl rfl
theorem cpl : Statement (.cpl) := of_f1 (op := 0x2F) rfl rfl
theorem ld_sp_d16 (d16 : Word) : Statement (.ld_sp_d16 d16) := of_f3 (mk := .ld_sp_d16) (op := 0x31) rfl rfl
theorem inc_atHL : Statement (.inc_atHL) := of_f1 (op := 0x34) rfl rfl
theorem dec_atHL : Statement (.dec_atHL) := of_f1 (op := 0x35) rfl rfl
theorem ld_atHL_d8 (d8 : Byte) : Statement (.ld_atHL_d8 d8) := of_f2 (mk := .ld_atHL_d8) (op := 0x36) rfl rfl
theorem scf : Statement (.scf) := of_f1 (op := 0x37) rfl rfl
theorem inc_a : Statement (.inc_a) := of_f1 (op := 0x3C) rfl rfl
theorem dec_a : Statement (.dec_a) := of_f1 (op := 0x3D) rfl rfl
theorem ld_a_d8 (d8 : Byte) : Statement (.ld_a_d8 d8) := of_f2 (mk := .ld_a_d8) (op := 0x3E) rfl rfl
theorem ccf : Statement (.ccf) := of_f1 (op := 0x3F) rfl rfl
theorem ld_b_b : Statement (.ld_b_b) := of_f1 (op := 0x40) rfl rfl
theorem ld_b_c : Statement (.ld_b_c) := of_f1 (op := 0x41) rfl rfl
theorem ld_b_d : Statement (.ld_b_d) := of_f1 (op := 0x42) rfl rfl
theorem ld_b_e : Statement (.ld_b_e) := of_f1 (op := 0x43) rfl rfl
theorem ld_b_h : Statement (.ld_b_h) := of_f1 (op := 0x44) rfl rfl
theorem ld_b_l : Statement (.ld_b_l) := of_f1 (op := 0x45) rfl rfl
theorem ld_b_atHL : Statement (.ld_b_atHL) := of_f1 (op := 0x46) rfl rfl
theorem ld_b_a : Statement (.ld_b_a) := of_f1 (op := 0x47) rfl rfl
theorem ld_c_b : Statement (.ld_c_b) := of_f1 (op := 0x48) rfl rfl
theorem ld_c_c : Statement (.ld_c_c) := of_f1 (op := 0x49) rfl rfl
theorem ld_c_d : Statement (.ld_c_d) := of_f1 (op := 0x4A) rfl rfl
theorem ld_c_e : Statement (.ld_c_e) := of_f1 (op := 0x4B) rfl rfl
theorem ld_c_h : Statement (.ld_c_h) := of_f1 (op := 0x4C) rfl rfl
theorem ld_c_l : Statement (.ld_c_l) := of_f1 (op := 0x4D) rfl rfl
theorem ld_c_atHL : Statement (.ld_c_atHL) := of_f1 (op := 0x4E) rfl rfl
theorem ld_c_a : Statement (.ld_c_a) := of_f1 (op := 0x4F) rfl rfl
theorem ld_d_b : Statement (.ld_d_b) := of_f1 (op := 0x50) rfl rfl
theorem ld_d_c : Statement (.ld_d_c) := of_f1 (op := 0x51) rfl rfl
theorem ld_d_d : Statement (.ld_d_d) := of_f1 (op := 0x52) rfl rfl
theorem ld_d_e : Statement (.ld_d_e) := of_f1 (op := 0x53) rfl rfl
theorem ld_d_h : Statement (.ld_d_h) := of_f1 (op := 0x54) rfl rfl
theorem ld_d_l : Statement (.ld_d_l) := of_f1 (op := 0x55) rfl rfl
theorem ld_d_atHL : Statement (.ld_d_atHL) := of_f1 (op := 0x56) rfl rfl
theorem ld_d_a : Statement (.ld_d_a) := of_f1 (op := 0x57) rfl rfl
theorem ld_e_b : Statement (.ld_e_b) := of_f1 (op := 0x58) rfl rfl
theorem ld_e_c : Statement (.ld_e_c) := of_f1 (op := 0x59) rfl rfl
theorem ld_e_d : Statement (.ld_e_d) := of_f1 (op := 0x5A) rfl rfl
theorem ld_e_e : Statement (.ld_e_e) := of_f1 (op := 0x5B) rfl rfl
theorem ld_e_h : Statement (.ld_e_h) := of_f1 (op := 0x5C) rfl rfl
theorem ld_e_l : Statement (.ld_e_l) := of_f1 (op := 0x5D) rfl rfl
theorem ld_e_atHL : Statement (.ld_e_atHL) := of_f1 (op := 0x5E) rfl rfl
theorem ld_e_a : Statement (.ld_e_a) := of_f1 (op := 0x5F) rfl rfl
theorem ld_h_b : Statement (.ld_h_b) := of_f1 (op := 0x60) rfl rfl
theorem ld_h_c : Statement (.ld_h_c) := of_f1 (op := 0x61) rfl rfl
theorem ld_h_d : Statement (.ld_h_d) := of_f1 (op := 0x62) rfl rfl
theorem ld_h_e : Statement (.ld_h_e) := of_f1 (op := 0x63) rfl rfl
theorem ld_h_h : Statement (.ld_h_h) := of_f1 (op := 0x64) rfl rfl
theorem ld_h_l : Statement (.ld_h_l) := of_f1 (op := 0x65) rfl rfl
theorem ld_h_atHL : Statement (.ld_h_atHL) := of_f1 (op := 0x66) rfl rfl
theorem ld_h_a : Statement (.ld_h_a) := of_f1 (op := 0x67) rfl rfl
theorem ld_l_b : Statement (.ld_l_b) := of_f1 (op := 0x68) rfl rfl
theorem ld_l_c : Statement (.ld_l_c) := of_f1 (op := 0x69) rfl rfl
theorem ld_l_d : Statement (.ld_l_d) := of_f1 (op := 0x6A) rfl rfl
theorem ld_l_e : Statement (.ld_l_e) := of_f1 (op := 0x6B) rfl rfl
theorem ld_l_h : Statement (.ld_l_h) := of_f1 (op := 0x6C) rfl rfl
theorem ld_l_l : Statement (.ld_l_l) := of_f1 (op := 0x6D) rfl rfl
theorem ld_l_atHL : Statement (.ld_l_atHL) := of_f1 (op := 0x6E) rfl rfl
theorem ld_l_a : Statement (.ld_l_a) := of_f1 (op := 0x6F) rfl rfl
theorem ld_atHL_b : Statement (.ld_atHL_b) := of_f1 (op := 0x70) rfl rfl
theorem ld_atHL_c : Statement (.ld_atHL_c) := of_f1 (op := 0x71) rfl rfl
theorem ld_atHL_d : Statement (.ld_atHL_d) := of_f1 (op := 0x72) rfl rfl
theorem ld_atHL_e : Statement (.ld_atHL_e) := of_f1 (op := 0x73) rfl rfl
theorem ld_atHL_h : Statement (.ld_atHL_h) := of_f1 (op := 0x74) rfl rfl
theorem ld_atHL_l : Statement (.ld_atHL_l) := of_f1 (op := 0x75) rfl rfl
theorem ld_atHL_a : Statement (.ld_atHL_a) := of_f1 (op := 0x77) rfl rfl
theorem ld_a_b : Statement (.ld_a_b) := of_f1 (op := 0x78) rfl rfl
theorem ld_a_c : Statement (.ld_a_c) := of_f1 (op := 0x79) rfl rfl
theorem ld_a_d : Statement (.ld_a_d) := of_f1 (op := 0x7A) rfl rfl
theorem ld_a_e : Statement (.ld_a_e) := of_f1 (op := 0x7B) rfl rfl
theorem ld_a_h : Statement (.ld_a_h) := of_f1 (op := 0x7C) rfl rfl
theorem ld_a_l : Statement (.ld_a_l) := of_f1 (op := 0x7D) rfl rfl
theorem ld_a_atHL : Statement (.ld_a_atHL) := of_f1 (op := 0x7E) rfl rfl
theorem ld_a_a : Statement (.ld_a_a) := of_f1 (op := 0x7F) rfl rfl
theorem add_a_b : Statement (.add_a_b) := of_f1 (op := 0x80) rfl rfl
theorem add_a_c : Statement (.add_a_c) := of_f1 (op := 0x81) rfl rfl
theorem add_a_d : Statement (.add_a_d) := of_f1 (op := 0x82) rfl rfl
theorem add_a_e : Statement (.add_a_e) := of_f1 (op := 0x83) rfl rfl
theorem add_a_h : Statement (.add_a_h) := of_f1 (op := 0x84) rfl rfl
theorem add_a_l : Statement (.add_a_l) := of_f1 (op := 0x85) rfl rfl
theorem add_a_atHL : Statement (.add_a_atHL) := of_f1 (op := 0x86) rfl rfl
theorem add_a_a : Statement (.add_a_a) := of_f1 (op := 0x87) rfl rfl
theorem adc_a_b : Statement (.adc_a_b) := of_f1 (op := 0x88) rfl rfl
theorem adc_a_c : Statement (.adc_a_c) := of_f1 (op := 0x89) rfl rfl
theorem adc_a_d : Statement (.adc_a_d) := of_f1 (op := 0x8A) rfl rfl
theorem adc_a_e : Statement (.adc_a_e) := of_f1 (op := 0x8B) rfl rfl
theorem adc_a_h : Statement (.adc_a_h) := of_f1 (op := 0x8C) rfl rfl
theorem adc_a_l : Statement (.adc_a_l) := of_f1 (op := 0x8D) rfl rfl
theorem adc_a_atHL : Statement (.adc_a_atHL) := of_f1 (op := 0x8E) rfl rfl
theorem adc_a_a : Statement (.adc_a_a) := of_f1 (op := 0x8F) rfl rfl
theorem sub_a_b : Statement (.sub_a_b) := of_f1 (op := 0x90) rfl rfl
theorem sub_a_c : Statement (.sub_a_c) := of_f1 (op := 0x91) rfl rfl
theorem sub_a_d : Statement (.sub_a_d) := of_f1 (op := 0x92) rfl rfl
theorem sub_a_e : Statement (.sub_a_e) := of_f1 (op := 0x93) rfl rfl
theorem sub_a_h : Statement (.sub_a_h) := of_f1 (op := 0x94) rfl rfl
theorem sub_a_l : Statement (.sub_a_l) := of_f1 (op := 0x95) rfl rfl
theorem sub_a_atHL : Statement (.sub_a_atHL) := of_f1 (op := 0x96) rfl rfl
theorem sub_a_a : Statement (.sub_a_a) := of_f1 (op := 0x97) rfl rfl
theorem sbc_a_b : Statement (.sbc_a_b) := of_f1 (op := 0x98) rfl rfl
theorem sbc_a_c : Statement (.sbc_a_c) := of_f1 (op := 0x99) rfl rfl
theorem sbc_a_d : Statement (.sbc_a_d) := of_f1 (op := 0x9A) rfl rfl
theorem sbc_a_e : Statement (.sbc_a_e) := of_f1 (op := 0x9B) rfl rfl
theorem sbc_a_h : Statement (.sbc_a_h) := of_f1 (op := 0x9C) rfl rfl
theorem sbc_a_l : Statement (.sbc_a_l) := of_f1 (op := 0x9D) rfl rfl
theorem sbc_a_atHL : Statement (.sbc_a_atHL) := of_f1 (op := 0x9E) rfl rfl
theorem sbc_a_a : Statement (.sbc_a_a) := of_f1 (op := 0x9F) rfl rfl
theorem and_a_b : Statement (.and_a_b) := of_f1 (op := 0xA0) rfl rfl
theorem and_a_c : Statement (.and_a_c) := of_f1 (op := 0xA1) rfl rfl
theorem and_a_d : Statement (.and_a_d) := of_f1 (op := 0xA2) rfl rfl
theorem and_a_e : Statement (.and_a_e) := of_f1 (op := 0xA3) rfl rfl
theorem and_a_h : Statement (.and_a_h) := of_f1 (op := 0xA4) rfl rfl
theorem and_a_l : Statement (.and_a_l) := of_f1 (op := 0xA5) rfl rfl
theorem and_a_atHL : Statement (.and_a_atHL) := of_f1 (op := 0xA6) rfl rfl
theorem and_a_a : Statement (.and_a_a) := of_f1 (op := 0xA7) rfl rfl
theorem xor_a_b : Statement (.xor_a_b) := of_f1 (op := 0xA8) rfl rfl
theorem xor_a_c : Statement (.xor_a_c) := of_f1 (op := 0xA9) rfl rfl
theorem xor_a_d : Statement (.xor_a_d) := of_f1 (op := 0xAA) rfl rfl
theorem xor_a_e : Statement (.xor_a_e) := of_f1 (op := 0xAB) rfl rfl
theorem xor_a_h : Statement (.xor_a_h) := of_f1 (op := 0xAC) rfl rfl
theorem xor_a_l : Statement (.xor_a_l) := of_f1 (op := 0xAD) rfl rfl
theorem xor_a_atHL : Statement (.xor_a_atHL) := of_f1 (op := 0xAE) rfl rfl
theorem xor_a_a : Statement (.xor_a_a) := of_f1 (op := 0xAF) rfl rfl
theorem or_a_b : Statement (.or_a_b) := of_f1 (op := 0xB0) rfl rfl
theorem or_a_c : Statement (.or_a_c) := of_f1 (op := 0xB1) rfl rfl
theorem or_a_d : Statement (.or_a_d) := of_f1 (op := 0xB2) rfl rfl
theorem or_a_e : Statement (.or_a_e) := of_f1 (op := 0xB3) rfl rfl
theorem or_a_h : Statement (.or_a_h) := of_f1 (op := 0xB4) rfl rfl
theorem or_a_l : Statement (.or_a_l) := of_f1 (op := 0xB5) rfl rfl
theorem or_a_atHL : Statement (.or_a_atHL) := of_f1 (op := 0xB6) rfl rfl
theorem or_a_a : Statement (.or_a_a) := of_f1 (op := 0xB7) rfl rfl
theorem cp_a_b : Statement (.cp_a_b) := of_f1 (op := 0xB8) rfl rfl
theorem cp_a_c : Statement (.cp_a_c) := of_f1 (op := 0xB9) rfl rfl
theorem cp_a_d : Statement (.cp_a_d) := of_f1 (op := 0xBA) rfl rfl
theorem cp_a_e : Statement (.cp_a_e) := of_f1 (op := 0xBB) rfl rfl
theorem cp_a_h : Statement (.cp_a_h) := of_f1 (op := 0xBC) rfl rfl
theorem cp_a_l : Statement (.cp_a_l) := of_f1 (op := 0xBD) rfl rfl
theorem cp_a_atHL : Statement (.cp_a_atHL) := of_f1 (op := 0xBE) rfl rfl
theorem cp_a_a : Statement (.cp_a_a) := of_f1 (op := 0xBF) rfl rfl
theorem pop_bc : Statement (.pop_bc) := of_f1 (op := 0xC1) rfl rfl
theorem push_bc : Statement (.push_bc) := of_f1 (op := 0xC5) rfl rfl
theorem add_a_d8 (d8 : Byte) : Statement (.add_a_d8 d8) := of_f2 (mk := .add_a_d8) (op := 0xC6) rfl rfl
theorem adc_a_d8 (d8 : Byte) : Statement (.adc_a_d8 d8) := of_f2 (mk := .adc_a_d8) (op := 0xCE) rfl rfl
theorem pop_de : Statement (.pop_de) := of_f1 (op := 0xD1) rfl rfl
theorem push_de : Statement (.push_de) := of_f1 (op := 0xD5) rfl rfl
theorem sub_a_d8 (d8 : Byte) : Statement (.sub_a_d8 d8) := of_f2 (mk := .sub_a_d8) (op := 0xD6) rfl rfl
theorem sbc_a_d8 (d8 : Byte) : Statement (.sbc_a_d8 d8) := of_f2 (mk := .sbc_a_d8) (op := 0xDE) rfl rfl
theorem ldh_atA8_a (a8 : Byte) : Statement (.ldh_atA8_a a8) := of_f2 (mk := .ldh_atA8_a) (op := 0xE0) rfl rfl
theorem pop_hl : Statement (.pop_hl) := of_f1 (op := 0xE1) rfl rfl
theorem push_hl : Statement (.push_hl) := of_f1 (op := 0xE5) rfl rfl
theorem and_a_d8 (d8 : Byte) : Statement (.and_a_d8 d8) := of_f2 (mk := .and_a_d8) (op := 0xE6) rfl rfl
theorem ld_atA16_a (a16 : Word) : Statement (.ld_atA16_a a16) := of_f3 (mk := .ld_atA16_a) (op := 0xEA) rfl rfl
theorem xor_a_d8 (d8 : Byte) : Statement (.xor_a_d8 d8) := of_f2 (mk := .xor_a_d8) (op := 0xEE) rfl rfl
theorem ldh_a_atA8 (a8 : Byte) : Statement (.ldh_a_atA8 a8) := of_f2 (mk := .ldh_a_atA8) (op := 0xF0) rfl rfl
theorem pop_af : Statement (.pop_af) := of_f1 (op := 0xF1) rfl rfl
theorem push_af : Statement (.push_af) := of_f1 (op := 0xF5) rfl rfl
theorem or_a_d8 (d8 : Byte) : Statement (.or_a_d8 d8) := of_f2 (mk := .or_a_d8) (op := 0xF6) rfl rfl
theorem ld_hl_spS8 (s8 : Byte) : Statement (.ld_hl_spS8 s8) := of_f2 (mk := .ld_hl_spS8) (op := 0xF8) rfl rfl
theorem ld_sp_hl : Statement (.ld_sp_hl) := of_f1 (op := 0xF9) rfl rfl
theorem ld_a_atA16 (a16 : Word) : Statement (.ld_a_atA16 a16) := of_f3 (mk := .ld_a_atA16) (op := 0xFA) rfl rfl
theorem cp_a_d8 (d8 : Byte) : Statement (.cp_a_d8 d8) := of_f2 (mk := .cp_a_d8) (op := 0xFE) rfl rfl

end Sys2Proof.Laws.RoundTrip
end

