-- ==== Sys2Proof/Laws/Step.lean ====
section
/-! SUPPORT. What fetching and a step can do, once each. -/

namespace Sys2Proof.Machine

/-- The bytes of a dispatched instruction are the opcode byte and its immediate, by the entry's format. -/
theorem dispatchEntry_encode (op : Byte) :
    match dispatchEntry op with
    | none => True
    | some (.f1 i) => encode i = [op]
    | some (.f2 mk) => ∀ v, encode (mk v) = [op, v]
    | some (.f3 mk) => ∀ w, encode (mk w) = [op, loByte w, hiByte w] := by
  have h : ∀ n : Fin 256, match dispatchEntry (BitVec.ofFin n) with
      | none => True
      | some (.f1 i) => encode i = [BitVec.ofFin n]
      | some (.f2 mk) => ∀ v, encode (mk v) = [BitVec.ofFin n, v]
      | some (.f3 mk) => ∀ w, encode (mk w) = [BitVec.ofFin n, loByte w, hiByte w] := by
    intro n
    fin_cases n <;> first | exact trivial | exact rfl | exact fun _ => rfl
  exact h op.toFin

/-! ## Fetching -/

/-- Fetching one instruction: it stops exactly when the opcode is unmapped, and else answers an instruction whose bytes
stand at pc, with pc past them. -/
theorem fetchInstr_cases (s : State) :
    (dispatchEntry (s.memRead s.pc) = none ∧
      fetchInstr s = .error (.unknownOpcode (s.memRead s.pc) (s.setPc (s.pc + 1)))) ∨
    (∃ i, dispatchEntry (s.memRead s.pc) ≠ none ∧
      fetchInstr s = .ok (i, s.setPc (s.pc + BitVec.ofNat 16 i.length)) ∧ s.bytesAt s.pc i.length = encode i) := by
  have hb := dispatchEntry_encode (s.memRead s.pc)
  cases hd : dispatchEntry (s.memRead s.pc) with
  | none => exact .inl ⟨rfl, by simp [fetchInstr, fetch8, hd, raiseUnknownOpcode]⟩
  | some e =>
    refine .inr ?_
    rw [hd] at hb
    cases e with
    | f1 i =>
      have hl : i.length = 1 := congrArg List.length hb
      refine ⟨i, nofun, ?_, ?_⟩
      · simp [fetchInstr, fetch8, hd, hl]
      · rw [hl, hb]; rfl
    | f2 mk =>
      have hb := hb (s.memRead (s.pc + 1))
      have hl : (mk (s.memRead (s.pc + 1))).length = 2 := congrArg List.length hb
      refine ⟨mk (s.memRead (s.pc + 1)), nofun, ?_, ?_⟩
      · rw [hl, show s.pc + BitVec.ofNat 16 2 = s.pc + 1 + 1 by rw [BitVec.add_assoc]; rfl]
        simp [fetchInstr, fetch8, hd]; rfl
      · rw [hl, hb]; rfl
    | f3 mk =>
      have hb := hb (wordOf (s.memRead (s.pc + 1 + 1)) (s.memRead (s.pc + 1)))
      have hl : (mk (wordOf (s.memRead (s.pc + 1 + 1)) (s.memRead (s.pc + 1)))).length = 3 := congrArg List.length hb
      refine ⟨mk (wordOf (s.memRead (s.pc + 1 + 1)) (s.memRead (s.pc + 1))), nofun, ?_, ?_⟩
      · rw [hl, show s.pc + BitVec.ofNat 16 3 = s.pc + 1 + 1 + 1 by rw [BitVec.add_assoc, BitVec.add_assoc]; rfl]
        simp [fetchInstr, fetch8, fetch16, hd]; rfl
      · rw [hl, hb, loByte_wordOf, hiByte_wordOf]; rfl

/-- Everything a step can do: nothing while halted; the exception; or the effect of the instruction fetched, with pc
past it, and then its charge. -/
theorem step_cases (s : State) :
    (s.halted = true ∧ step s = .next s) ∨
    (s.halted = false ∧ dispatchEntry (s.memRead s.pc) = none ∧
      step s = .fault (.unknownOpcode (s.memRead s.pc) (s.setPc (s.pc + 1)))) ∨
    (∃ i, s.halted = false ∧ dispatchEntry (s.memRead s.pc) ≠ none ∧ s.bytesAt s.pc i.length = encode i ∧
      fetchInstr s = .ok (i, s.setPc (s.pc + BitVec.ofNat 16 i.length)) ∧
      step s = .next ((effect i.form (s.setPc (s.pc + BitVec.ofNat 16 i.length))).charge i.cost)) := by
  cases hh : s.halted with
  | true => exact .inl ⟨rfl, by simp [step, hh]⟩
  | false =>
    refine .inr ?_
    obtain ⟨hd, hf⟩ | ⟨i, hd, hf, hb⟩ := fetchInstr_cases s
    · exact .inl ⟨rfl, hd, by simp [step, hh, hf]⟩
    · exact .inr ⟨i, rfl, hd, hb, hf, by simp [step, hh, hf, exec_eq_effect, chargeAfter]⟩

end Sys2Proof.Machine
end

