-- ==== Sys2Proof/Tests/Slice0.lean ====
section
/-! SUPPORT. Tests on fixed values, with expected results from 95_test_vectors.md and the encodings of R51 to R55, and a
witness for the hypotheses of each statement that has some. -/

namespace Sys2Proof.Tests

open Sys2Proof.Machine

/-! ## Helpers -/

/-- `s` with a program's bytes at its pc. -/
def start (bytes : List Byte) (s : State) : State := s.placeBytes s.pc bytes

/-- The state after a step that returns `Ok`. -/
def after (s : State) : Option State :=
  match step s with
  | .next t => some t
  | .fault _ => none
  | .refused _ => none

/-- The opcode byte and the state of a step that returns `UnknownOpcode`. -/
def unknown (s : State) : Option (Byte × State) :=
  match step s with
  | .next _ => none
  | .fault (.unknownOpcode op t) => some (op, t)
  | .refused _ => none

/-- Every list of bytes decodes to its instruction, with nothing left over. -/
def allDecode (l : List (List Byte × Instr)) : Bool :=
  l.all fun p =>
    match decode p.1 with
    | .ok (i, rest) => i == p.2 && rest.isEmpty
    | .error _ => false

/-! ## Well-formedness: each check refuses an ill-formed term and accepts the largest or least good one -/

theorem test_image_too_large : imageWellFormed (List.replicate 65281 0xAA) = false := by
  rw [imageWellFormed, List.length_replicate]; decide

theorem test_image_largest : imageWellFormed (List.replicate 65280 0xAA) = true := by
  rw [imageWellFormed, List.length_replicate]; decide

theorem test_cycw_too_narrow : cycwWellFormed 31 = false := by decide

theorem test_cycw_narrowest : cycwWellFormed 32 = true := by decide

/-- The canonical form of memory refuses a listed power-on byte, a repeated address, falling addresses and an address
outside the address space. -/
theorem test_memory_ill_formed :
    Memory.wf [(0xC000, 0)] = false ∧ Memory.wf [(1, 2), (1, 3)] = false ∧ Memory.wf [(2, 1), (1, 1)] = false ∧
      Memory.wf [(65536, 1)] = false ∧ Memory.wf [(0, 1), (65535, 1)] = true := by decide

/-! ## Decoding: every instruction, its opcode byte written bit by bit (R51, R55) -/

theorem test_decode_row_0 :
    allDecode
      [([0b00000000], .nop), ([0b00000001, 0x34, 0x12], .ld_bc_d16 0x1234), ([0b00000010], .ld_atBC_a), ([0b00000100], .inc_b),
       ([0b00000101], .dec_b), ([0b00000110, 0x9A], .ld_b_d8 0x9A), ([0b00001000, 0x34, 0x12], .ld_atA16_sp 0x1234), ([0b00001010], .ld_a_atBC),
       ([0b00001100], .inc_c), ([0b00001101], .dec_c), ([0b00001110, 0x9A], .ld_c_d8 0x9A)] = true := by decide

theorem test_decode_row_1 :
    allDecode
      [([0b00010001, 0x34, 0x12], .ld_de_d16 0x1234), ([0b00010010], .ld_atDE_a), ([0b00010100], .inc_d), ([0b00010101], .dec_d),
       ([0b00010110, 0x9A], .ld_d_d8 0x9A), ([0b00011010], .ld_a_atDE), ([0b00011100], .inc_e), ([0b00011101], .dec_e),
       ([0b00011110, 0x9A], .ld_e_d8 0x9A)] = true := by decide

theorem test_decode_row_2 :
    allDecode
      [([0b00100001, 0x34, 0x12], .ld_hl_d16 0x1234), ([0b00100100], .inc_h), ([0b00100101], .dec_h), ([0b00100110, 0x9A], .ld_h_d8 0x9A),
       ([0b00100111], .daa), ([0b00101100], .inc_l), ([0b00101101], .dec_l), ([0b00101110, 0x9A], .ld_l_d8 0x9A),
       ([0b00101111], .cpl)] = true := by decide

theorem test_decode_row_3 :
    allDecode
      [([0b00110001, 0x34, 0x12], .ld_sp_d16 0x1234), ([0b00110100], .inc_atHL), ([0b00110101], .dec_atHL), ([0b00110110, 0x9A], .ld_atHL_d8 0x9A),
       ([0b00110111], .scf), ([0b00111100], .inc_a), ([0b00111101], .dec_a), ([0b00111110, 0x9A], .ld_a_d8 0x9A),
       ([0b00111111], .ccf)] = true := by decide

theorem test_decode_row_4 :
    allDecode
      [([0b01000000], .ld_b_b), ([0b01000001], .ld_b_c), ([0b01000010], .ld_b_d), ([0b01000011], .ld_b_e),
       ([0b01000100], .ld_b_h), ([0b01000101], .ld_b_l), ([0b01000110], .ld_b_atHL), ([0b01000111], .ld_b_a),
       ([0b01001000], .ld_c_b), ([0b01001001], .ld_c_c), ([0b01001010], .ld_c_d), ([0b01001011], .ld_c_e),
       ([0b01001100], .ld_c_h), ([0b01001101], .ld_c_l), ([0b01001110], .ld_c_atHL), ([0b01001111], .ld_c_a)] = true := by decide

theorem test_decode_row_5 :
    allDecode
      [([0b01010000], .ld_d_b), ([0b01010001], .ld_d_c), ([0b01010010], .ld_d_d), ([0b01010011], .ld_d_e),
       ([0b01010100], .ld_d_h), ([0b01010101], .ld_d_l), ([0b01010110], .ld_d_atHL), ([0b01010111], .ld_d_a),
       ([0b01011000], .ld_e_b), ([0b01011001], .ld_e_c), ([0b01011010], .ld_e_d), ([0b01011011], .ld_e_e),
       ([0b01011100], .ld_e_h), ([0b01011101], .ld_e_l), ([0b01011110], .ld_e_atHL), ([0b01011111], .ld_e_a)] = true := by decide

theorem test_decode_row_6 :
    allDecode
      [([0b01100000], .ld_h_b), ([0b01100001], .ld_h_c), ([0b01100010], .ld_h_d), ([0b01100011], .ld_h_e),
       ([0b01100100], .ld_h_h), ([0b01100101], .ld_h_l), ([0b01100110], .ld_h_atHL), ([0b01100111], .ld_h_a),
       ([0b01101000], .ld_l_b), ([0b01101001], .ld_l_c), ([0b01101010], .ld_l_d), ([0b01101011], .ld_l_e),
       ([0b01101100], .ld_l_h), ([0b01101101], .ld_l_l), ([0b01101110], .ld_l_atHL), ([0b01101111], .ld_l_a)] = true := by decide

theorem test_decode_row_7 :
    allDecode
      [([0b01110000], .ld_atHL_b), ([0b01110001], .ld_atHL_c), ([0b01110010], .ld_atHL_d), ([0b01110011], .ld_atHL_e),
       ([0b01110100], .ld_atHL_h), ([0b01110101], .ld_atHL_l), ([0b01110111], .ld_atHL_a), ([0b01111000], .ld_a_b),
       ([0b01111001], .ld_a_c), ([0b01111010], .ld_a_d), ([0b01111011], .ld_a_e), ([0b01111100], .ld_a_h),
       ([0b01111101], .ld_a_l), ([0b01111110], .ld_a_atHL), ([0b01111111], .ld_a_a)] = true := by decide

theorem test_decode_row_8 :
    allDecode
      [([0b10000000], .add_a_b), ([0b10000001], .add_a_c), ([0b10000010], .add_a_d), ([0b10000011], .add_a_e),
       ([0b10000100], .add_a_h), ([0b10000101], .add_a_l), ([0b10000110], .add_a_atHL), ([0b10000111], .add_a_a),
       ([0b10001000], .adc_a_b), ([0b10001001], .adc_a_c), ([0b10001010], .adc_a_d), ([0b10001011], .adc_a_e),
       ([0b10001100], .adc_a_h), ([0b10001101], .adc_a_l), ([0b10001110], .adc_a_atHL), ([0b10001111], .adc_a_a)] = true := by decide

theorem test_decode_row_9 :
    allDecode
      [([0b10010000], .sub_a_b), ([0b10010001], .sub_a_c), ([0b10010010], .sub_a_d), ([0b10010011], .sub_a_e),
       ([0b10010100], .sub_a_h), ([0b10010101], .sub_a_l), ([0b10010110], .sub_a_atHL), ([0b10010111], .sub_a_a),
       ([0b10011000], .sbc_a_b), ([0b10011001], .sbc_a_c), ([0b10011010], .sbc_a_d), ([0b10011011], .sbc_a_e),
       ([0b10011100], .sbc_a_h), ([0b10011101], .sbc_a_l), ([0b10011110], .sbc_a_atHL), ([0b10011111], .sbc_a_a)] = true := by decide

theorem test_decode_row_a :
    allDecode
      [([0b10100000], .and_a_b), ([0b10100001], .and_a_c), ([0b10100010], .and_a_d), ([0b10100011], .and_a_e),
       ([0b10100100], .and_a_h), ([0b10100101], .and_a_l), ([0b10100110], .and_a_atHL), ([0b10100111], .and_a_a),
       ([0b10101000], .xor_a_b), ([0b10101001], .xor_a_c), ([0b10101010], .xor_a_d), ([0b10101011], .xor_a_e),
       ([0b10101100], .xor_a_h), ([0b10101101], .xor_a_l), ([0b10101110], .xor_a_atHL), ([0b10101111], .xor_a_a)] = true := by decide

theorem test_decode_row_b :
    allDecode
      [([0b10110000], .or_a_b), ([0b10110001], .or_a_c), ([0b10110010], .or_a_d), ([0b10110011], .or_a_e),
       ([0b10110100], .or_a_h), ([0b10110101], .or_a_l), ([0b10110110], .or_a_atHL), ([0b10110111], .or_a_a),
       ([0b10111000], .cp_a_b), ([0b10111001], .cp_a_c), ([0b10111010], .cp_a_d), ([0b10111011], .cp_a_e),
       ([0b10111100], .cp_a_h), ([0b10111101], .cp_a_l), ([0b10111110], .cp_a_atHL), ([0b10111111], .cp_a_a)] = true := by decide

theorem test_decode_row_c :
    allDecode
      [([0b11000001], .pop_bc), ([0b11000101], .push_bc), ([0b11000110, 0x9A], .add_a_d8 0x9A), ([0b11001110, 0x9A], .adc_a_d8 0x9A)] = true := by decide

theorem test_decode_row_d :
    allDecode
      [([0b11010001], .pop_de), ([0b11010101], .push_de), ([0b11010110, 0x9A], .sub_a_d8 0x9A), ([0b11011110, 0x9A], .sbc_a_d8 0x9A)] = true := by decide

theorem test_decode_row_e :
    allDecode
      [([0b11100000, 0x9A], .ldh_atA8_a 0x9A), ([0b11100001], .pop_hl), ([0b11100101], .push_hl), ([0b11100110, 0x9A], .and_a_d8 0x9A),
       ([0b11101010, 0x34, 0x12], .ld_atA16_a 0x1234), ([0b11101110, 0x9A], .xor_a_d8 0x9A)] = true := by decide

theorem test_decode_row_f :
    allDecode
      [([0b11110000, 0x9A], .ldh_a_atA8 0x9A), ([0b11110001], .pop_af), ([0b11110101], .push_af), ([0b11110110, 0x9A], .or_a_d8 0x9A),
       ([0b11111000, 0x9A], .ld_hl_spS8 0x9A), ([0b11111001], .ld_sp_hl), ([0b11111010, 0x34, 0x12], .ld_a_atA16 0x1234), ([0b11111110, 0x9A], .cp_a_d8 0x9A)] = true := by decide

/-- Bytes with no instruction, from every group of R57. -/
theorem test_decode_unmapped :
    [0x03, 0x10, 0x20, 0x3B, 0x76, 0xCB, 0xDD, 0xE2, 0xFF].all
      (fun op : Byte => decide (decode [op, 0x12, 0x34] = .error (.unmapped op))) = true := by decide

theorem test_decode_truncated :
    decode [] = .error .truncated ∧ decode [0x3E] = .error .truncated ∧ decode [0xEA, 0xCD] = .error .truncated := by
  exact ⟨rfl, rfl, rfl⟩

theorem test_decodeTableWord :
    decodeTableWord 8 0x41 = some .ld_b_c ∧ decodeTableWord 16 0x423E = some (.ld_a_d8 0x42) ∧
      decodeTableWord 24 0xABCDEA = some (.ld_atA16_a 0xABCD) ∧ decodeTableWord 8 0x3E = some (.ld_a_d8 0x00) ∧
      decodeTableWord 8 0x76 = none := by decide

theorem test_withFetchWord :
    (after (State.reset.withFetchWord 16 0x423E)).map (fun t => (t.a, t.pc, t.cycles)) =
      some (0x42, 0x0102, 8) := by decide

/-! ## One step -/

/-- Vector A1 of 95_test_vectors.md (R80). -/
theorem test_ld_b_c_a1 :
    (after (start [0x41] { State.reset with c := 0x5A })).map (fun t => (t.f, t.b, t.pc, t.cycles)) =
      some (0x00, 0x5A, 0x0101, 4) := by decide

/-- Vector A2 of 95_test_vectors.md (R80). -/
theorem test_ld_a_a_a2 :
    (after (start [0x7F] { State.reset with a := 0x33, f := 0xF0 })).map (fun t => (t.f, t.pc, t.cycles)) =
      some (0xF0, 0x0101, 4) := by decide

/-- Vector A5 of 95_test_vectors.md (R81). -/
theorem test_ld_h_atHL_a5 :
    (after (start [0x66] (State.memWrite { State.reset with h := 0xC0, l := 0x10 } 0xC010 0x99))).map (fun t => (t.f, t.h, t.pc, t.cycles)) =
      some (0x00, 0x99, 0x0101, 8) := by decide

/-- Vector A6 of 95_test_vectors.md (R81). -/
theorem test_ld_l_atHL_a6 :
    (after (start [0x6E] (State.memWrite { State.reset with h := 0xC0, l := 0x10 } 0xC010 0x99))).map (fun t => (t.f, t.l, t.pc, t.cycles)) =
      some (0x00, 0x99, 0x0101, 8) := by decide

/-- Vector A9 of 95_test_vectors.md (R82). -/
theorem test_ld_atHL_h_a9 :
    (after (start [0x74] { State.reset with h := 0xC0, l := 0x10 })).map (fun t => (t.f, t.pc, t.memRead 0xC010, t.cycles)) =
      some (0x00, 0x0101, 0xC0, 8) := by decide

/-- Vector A12 of 95_test_vectors.md (R83). -/
theorem test_ld_a_d8_a12 :
    (after (start [0x3E, 0x42] State.reset)).map (fun t => (t.a, t.f, t.pc, t.cycles)) =
      some (0x42, 0x00, 0x0102, 8) := by decide

/-- Vector A14 of 95_test_vectors.md (R83). -/
theorem test_ld_c_d8_a14 :
    (after (start [0x0E] (State.memWrite { State.reset with pc := 0xFFFF } 0x0000 0x77))).map (fun t => (t.f, t.c, t.pc, t.cycles)) =
      some (0x00, 0x77, 0x0001, 8) := by decide

/-- Vector A15 of 95_test_vectors.md (R84). -/
theorem test_ld_atHL_d8_a15 :
    (after (start [0x36, 0x5A] { State.reset with h := 0xC1, l := 0x23 })).map (fun t => (t.f, t.pc, t.memRead 0xC123, t.cycles)) =
      some (0x00, 0x0102, 0x5A, 12) := by decide

/-- Vector A16 of 95_test_vectors.md (R84). -/
theorem test_ld_atHL_d8_a16 :
    (after (start [0x36, 0x5A] { State.reset with h := 0x01, l := 0x01 })).map (fun t => (t.f, t.pc, t.memRead 0x0101, t.cycles)) =
      some (0x00, 0x0102, 0x5A, 12) := by decide

/-- Vector A17 of 95_test_vectors.md (R85). -/
theorem test_ld_a_atBC_a17 :
    (after (start [0x0A] (State.memWrite { State.reset with b := 0xC0, c := 0x01 } 0xC001 0x3C))).map (fun t => (t.a, t.f, t.pc, t.cycles)) =
      some (0x3C, 0x00, 0x0101, 8) := by decide

/-- Vector A18 of 95_test_vectors.md (R86). -/
theorem test_ld_a_atDE_a18 :
    (after (start [0x1A] (State.memWrite { State.reset with d := 0xC0, e := 0x02 } 0xC002 0xC3))).map (fun t => (t.a, t.f, t.pc, t.cycles)) =
      some (0xC3, 0x00, 0x0101, 8) := by decide

/-- Vector A19 of 95_test_vectors.md (R87). -/
theorem test_ld_atBC_a_a19 :
    (after (start [0x02] { State.reset with b := 0xC0, c := 0x03, a := 0x11 })).map (fun t => (t.f, t.pc, t.memRead 0xC003, t.cycles)) =
      some (0x00, 0x0101, 0x11, 8) := by decide

/-- Vector A20 of 95_test_vectors.md (R88). -/
theorem test_ld_atDE_a_a20 :
    (after (start [0x12] { State.reset with d := 0x00, e := 0x00, a := 0xEE })).map (fun t => (t.f, t.pc, t.memRead 0x0000, t.cycles)) =
      some (0x00, 0x0101, 0xEE, 8) := by decide

/-- Vector A22 of 95_test_vectors.md (R89). -/
theorem test_ldh_a_atA8_a22 :
    (after (start [0xF0, 0xFF] (State.memWrite State.reset 0xFFFF 0x5C))).map (fun t => (t.a, t.f, t.pc, t.cycles)) =
      some (0x5C, 0x00, 0x0102, 12) := by decide

/-- Vector A24 of 95_test_vectors.md (R90). -/
theorem test_ldh_atA8_a_a24 :
    (after (start [0xE0, 0x80] { State.reset with a := 0x5A })).map (fun t => (t.f, t.pc, t.memRead 0xFF80, t.memRead 0xFE80, t.cycles)) =
      some (0x00, 0x0102, 0x5A, 0x00, 12) := by decide

/-- Vector A25 of 95_test_vectors.md (R91). -/
theorem test_ld_a_atA16_a25 :
    (after (start [0xFA, 0x34, 0x12] (State.memWrite State.reset 0x1234 0x9A))).map (fun t => (t.a, t.f, t.pc, t.cycles)) =
      some (0x9A, 0x00, 0x0103, 16) := by decide

/-- Vector A26 of 95_test_vectors.md (R92). -/
theorem test_ld_atA16_a_a26 :
    (after (start [0xEA, 0xCD, 0xAB] { State.reset with a := 0x66 })).map (fun t => (t.f, t.pc, t.memRead 0xABCD, t.cycles)) =
      some (0x00, 0x0103, 0x66, 16) := by decide

/-- Vector A27 of 95_test_vectors.md (R92). -/
theorem test_ld_atA16_a_a27 :
    (after (start [0xEA, 0x03, 0x01] { State.reset with a := 0x3C })).map (fun t => (t.f, t.pc, t.memRead 0x0103, t.cycles)) =
      some (0x00, 0x0103, 0x3C, 16) := by decide

/-- Vector B1 of 95_test_vectors.md (R100). -/
theorem test_ld_bc_d16_b1 :
    (after (start [0x01, 0x34, 0x12] State.reset)).map (fun t => (t.f, t.b, t.c, t.pc, t.cycles)) =
      some (0x00, 0x12, 0x34, 0x0103, 12) := by decide

/-- Vector B3 of 95_test_vectors.md (R100). -/
theorem test_ld_hl_d16_b3 :
    (after (start [0x21, 0xCD, 0xAB] (State.memWrite (State.memWrite { State.reset with pc := 0xFFFE } 0xFFFF 0xCD) 0x0000 0xAB))).map (fun t => (t.f, t.h, t.l, t.pc, t.cycles)) =
      some (0x00, 0xAB, 0xCD, 0x0001, 12) := by decide

/-- Vector B4 of 95_test_vectors.md (R101). -/
theorem test_ld_sp_d16_b4 :
    (after (start [0x31, 0xFE, 0xDF] State.reset)).map (fun t => (t.f, t.sp, t.pc, t.cycles)) =
      some (0x00, 0xDFFE, 0x0103, 12) := by decide

/-- Vector B5 of 95_test_vectors.md (R102). -/
theorem test_ld_atA16_sp_b5 :
    (after (start [0x08, 0x00, 0xC0] { State.reset with sp := 0xBEEF })).map (fun t => (t.f, t.pc, t.memRead 0xC000, t.memRead 0xC001, t.cycles)) =
      some (0x00, 0x0103, 0xEF, 0xBE, 20) := by decide

/-- Vector B6 of 95_test_vectors.md (R102). -/
theorem test_ld_atA16_sp_b6 :
    (after (start [0x08, 0xFF, 0xFF] { State.reset with sp := 0x1234 })).map (fun t => (t.f, t.pc, t.memRead 0xFFFF, t.memRead 0x0000, t.cycles)) =
      some (0x00, 0x0103, 0x34, 0x12, 20) := by decide

/-- Vector B7 of 95_test_vectors.md (R103). -/
theorem test_push_bc_b7 :
    (after (start [0xC5] { State.reset with b := 0x12, c := 0x34, sp := 0xFFFE })).map (fun t => (t.f, t.sp, t.pc, t.memRead 0xFFFD, t.memRead 0xFFFC, t.cycles)) =
      some (0x00, 0xFFFC, 0x0101, 0x12, 0x34, 16) := by decide

/-- Vector B9 of 95_test_vectors.md (R103). -/
theorem test_push_hl_b9 :
    (after (start [0xE5] { State.reset with h := 0xC0, l := 0xDE, sp := 0x0001 })).map (fun t => (t.f, t.sp, t.pc, t.memRead 0x0000, t.memRead 0xFFFF, t.cycles)) =
      some (0x00, 0xFFFF, 0x0101, 0xC0, 0xDE, 16) := by decide

/-- Vector B11 of 95_test_vectors.md (R104). -/
theorem test_push_af_b11 :
    (after (start [0xF5] { State.reset with a := 0x9C, f := 0xB0, sp := 0xFFFE })).map (fun t => (t.f, t.sp, t.pc, t.memRead 0xFFFD, t.memRead 0xFFFC, t.cycles)) =
      some (0xB0, 0xFFFC, 0x0101, 0x9C, 0xB0, 16) := by decide

/-- Vector B12 of 95_test_vectors.md (R105). -/
theorem test_pop_bc_b12 :
    (after (start [0xC1] (State.memWrite (State.memWrite { State.reset with sp := 0xC000 } 0xC000 0x34) 0xC001 0x12))).map (fun t => (t.f, t.b, t.c, t.sp, t.pc, t.cycles)) =
      some (0x00, 0x12, 0x34, 0xC002, 0x0101, 12) := by decide

/-- Vector B14 of 95_test_vectors.md (R105). -/
theorem test_pop_hl_b14 :
    (after (start [0xE1] (State.memWrite (State.memWrite { State.reset with sp := 0xFFFF } 0xFFFF 0xEF) 0x0000 0xBE))).map (fun t => (t.f, t.h, t.l, t.sp, t.pc, t.cycles)) =
      some (0x00, 0xBE, 0xEF, 0x0001, 0x0101, 12) := by decide

/-- Vector B15 of 95_test_vectors.md (R106). -/
theorem test_pop_af_b15 :
    (after (start [0xF1] (State.memWrite (State.memWrite { State.reset with sp := 0xC000 } 0xC000 0xFF) 0xC001 0x12))).map (fun t => (t.a, t.f, t.sp, t.pc, t.cycles)) =
      some (0x12, 0xF0, 0xC002, 0x0101, 12) := by decide

/-- Vector B16 of 95_test_vectors.md (R106). -/
theorem test_pop_af_b16 :
    (after (start [0xF1] (State.memWrite (State.memWrite { State.reset with f := 0xF0, sp := 0xC000 } 0xC000 0x0F) 0xC001 0x34))).map (fun t => (t.a, t.f, t.sp, t.pc, t.cycles)) =
      some (0x34, 0x00, 0xC002, 0x0101, 12) := by decide

/-- Vector B18 of 95_test_vectors.md (R107). -/
theorem test_ld_sp_hl_b18 :
    (after (start [0xF9] { State.reset with h := 0xC1, l := 0x00 })).map (fun t => (t.f, t.sp, t.pc, t.cycles)) =
      some (0x00, 0xC100, 0x0101, 8) := by decide

/-- Vector B19 of 95_test_vectors.md (R108). -/
theorem test_ld_hl_spS8_b19 :
    (after (start [0xF8, 0x02] { State.reset with h := 0x11, l := 0x22, f := 0xF0, sp := 0xFFFE })).map (fun t => (t.f, t.h, t.l, t.pc, t.cycles)) =
      some (0xF0, 0x00, 0x00, 0x0102, 12) := by decide

/-- Vector B21 of 95_test_vectors.md (R108). -/
theorem test_ld_hl_spS8_b21 :
    (after (start [0xF8, 0x80] { State.reset with h := 0x11, l := 0x22, sp := 0x0010 })).map (fun t => (t.f, t.h, t.l, t.pc, t.cycles)) =
      some (0x00, 0xFF, 0x90, 0x0102, 12) := by decide

/-- Vector C2 of 95_test_vectors.md (R125). -/
theorem test_inc_b_c2 :
    (after (start [0x04] { State.reset with b := 0xFF, f := 0x10 })).map (fun t => (t.f, t.b, t.pc, t.cycles)) =
      some (0xB0, 0x00, 0x0101, 4) := by decide

/-- Vector C5 of 95_test_vectors.md (R125). -/
theorem test_inc_l_c5 :
    (after (start [0x2C] { State.reset with l := 0xFF, h := 0x12 })).map (fun t => (t.f, t.l, t.pc, t.cycles)) =
      some (0xA0, 0x00, 0x0101, 4) := by decide

/-- Vector C6 of 95_test_vectors.md (R126). -/
theorem test_inc_atHL_c6 :
    (after (start [0x34] (State.memWrite { State.reset with h := 0xC0, l := 0x00, f := 0x10 } 0xC000 0xFF))).map (fun t => (t.f, t.pc, t.memRead 0xC000, t.cycles)) =
      some (0xB0, 0x0101, 0x00, 12) := by decide

/-- Vector C9 of 95_test_vectors.md (R127). -/
theorem test_dec_b_c9 :
    (after (start [0x05] { State.reset with b := 0x00, f := 0x10 })).map (fun t => (t.f, t.b, t.pc, t.cycles)) =
      some (0x70, 0xFF, 0x0101, 4) := by decide

/-- Vector C11 of 95_test_vectors.md (R127). -/
theorem test_dec_a_c11 :
    (after (start [0x3D] { State.reset with a := 0x80, f := 0x80 })).map (fun t => (t.a, t.f, t.pc, t.cycles)) =
      some (0x7F, 0x60, 0x0101, 4) := by decide

/-- Vector C12 of 95_test_vectors.md (R128). -/
theorem test_dec_atHL_c12 :
    (after (start [0x35] (State.memWrite { State.reset with h := 0xC0, l := 0x00 } 0xC000 0x00))).map (fun t => (t.f, t.pc, t.memRead 0xC000, t.cycles)) =
      some (0x60, 0x0101, 0xFF, 12) := by decide

/-- Vector D1 of 95_test_vectors.md (R133). -/
theorem test_add_a_b_d1 :
    (after (start [0x80] { State.reset with a := 0xFF, b := 0x01 })).map (fun t => (t.a, t.f, t.pc, t.cycles)) =
      some (0x00, 0xB0, 0x0101, 4) := by decide

/-- Vector D5 of 95_test_vectors.md (R133). -/
theorem test_add_a_e_d5 :
    (after (start [0x83] { State.reset with a := 0x00, e := 0x00, f := 0xF0 })).map (fun t => (t.f, t.pc, t.cycles)) =
      some (0x80, 0x0101, 4) := by decide

/-- Vector D7 of 95_test_vectors.md (R134). -/
theorem test_add_a_atHL_d7 :
    (after (start [0x86] (State.memWrite { State.reset with a := 0x3C, h := 0xC0, l := 0x00 } 0xC000 0x12))).map (fun t => (t.a, t.f, t.pc, t.cycles)) =
      some (0x4E, 0x00, 0x0101, 8) := by decide

/-- Vector D9 of 95_test_vectors.md (R135). -/
theorem test_add_a_d8_d9 :
    (after (start [0xC6, 0x01] { State.reset with a := 0x7F })).map (fun t => (t.a, t.f, t.pc, t.cycles)) =
      some (0x80, 0x20, 0x0102, 8) := by decide

/-- Vector D12 of 95_test_vectors.md (R136). -/
theorem test_adc_a_b_d12 :
    (after (start [0x88] { State.reset with a := 0x01, b := 0xFF, f := 0x10 })).map (fun t => (t.f, t.pc, t.cycles)) =
      some (0x30, 0x0101, 4) := by decide

/-- Vector D15 of 95_test_vectors.md (R136). -/
theorem test_adc_a_a_d15 :
    (after (start [0x8F] { State.reset with a := 0x80, f := 0x10 })).map (fun t => (t.a, t.f, t.pc, t.cycles)) =
      some (0x01, 0x10, 0x0101, 4) := by decide

/-- Vector D16 of 95_test_vectors.md (R137). -/
theorem test_adc_a_atHL_d16 :
    (after (start [0x8E] (State.memWrite { State.reset with a := 0xE1, h := 0xC0, l := 0x00, f := 0x10 } 0xC000 0x1E))).map (fun t => (t.a, t.f, t.pc, t.cycles)) =
      some (0x00, 0xB0, 0x0101, 8) := by decide

/-- Vector D18 of 95_test_vectors.md (R138). -/
theorem test_adc_a_d8_d18 :
    (after (start [0xCE, 0xFF] { State.reset with a := 0xFF, f := 0x10 })).map (fun t => (t.f, t.pc, t.cycles)) =
      some (0x30, 0x0102, 8) := by decide

/-- Vector E1 of 95_test_vectors.md (R139). -/
theorem test_sub_a_b_e1 :
    (after (start [0x90] { State.reset with a := 0x3E, b := 0x3E })).map (fun t => (t.a, t.f, t.pc, t.cycles)) =
      some (0x00, 0xC0, 0x0101, 4) := by decide

/-- Vector E2 of 95_test_vectors.md (R141). -/
theorem test_sub_a_d8_e2 :
    (after (start [0xD6, 0x0F] { State.reset with a := 0x3E })).map (fun t => (t.a, t.f, t.pc, t.cycles)) =
      some (0x2F, 0x60, 0x0102, 8) := by decide

/-- Vector E3 of 95_test_vectors.md (R140). -/
theorem test_sub_a_atHL_e3 :
    (after (start [0x96] (State.memWrite { State.reset with a := 0x3E, h := 0xC0, l := 0x00 } 0xC000 0x40))).map (fun t => (t.a, t.f, t.pc, t.cycles)) =
      some (0xFE, 0x50, 0x0101, 8) := by decide

/-- Vector E8 of 95_test_vectors.md (R142). -/
theorem test_sbc_a_b_e8 :
    (after (start [0x98] { State.reset with a := 0x00, b := 0xFF, f := 0x10 })).map (fun t => (t.f, t.pc, t.cycles)) =
      some (0xF0, 0x0101, 4) := by decide

/-- Vector E11 of 95_test_vectors.md (R142). -/
theorem test_sbc_a_a_e11 :
    (after (start [0x9F] { State.reset with a := 0x77, f := 0x10 })).map (fun t => (t.a, t.f, t.pc, t.cycles)) =
      some (0xFF, 0x70, 0x0101, 4) := by decide

/-- Vector E13 of 95_test_vectors.md (R143). -/
theorem test_sbc_a_atHL_e13 :
    (after (start [0x9E] (State.memWrite { State.reset with a := 0x3B, h := 0xC0, l := 0x00, f := 0x10 } 0xC000 0x4F))).map (fun t => (t.a, t.f, t.pc, t.cycles)) =
      some (0xEB, 0x70, 0x0101, 8) := by decide

/-- Vector E15 of 95_test_vectors.md (R144). -/
theorem test_sbc_a_d8_e15 :
    (after (start [0xDE, 0xFF] { State.reset with a := 0xFF, f := 0x10 })).map (fun t => (t.f, t.pc, t.cycles)) =
      some (0x70, 0x0102, 8) := by decide

/-- Vector E16 of 95_test_vectors.md (R154). -/
theorem test_cp_a_b_e16 :
    (after (start [0xB8] { State.reset with a := 0x3C, b := 0x2F })).map (fun t => (t.f, t.pc, t.cycles)) =
      some (0x60, 0x0101, 4) := by decide

/-- Vector E18 of 95_test_vectors.md (R155). -/
theorem test_cp_a_atHL_e18 :
    (after (start [0xBE] (State.memWrite { State.reset with a := 0x3C, h := 0xC0, l := 0x00 } 0xC000 0x40))).map (fun t => (t.f, t.pc, t.cycles)) =
      some (0x50, 0x0101, 8) := by decide

/-- Vector E20 of 95_test_vectors.md (R154). -/
theorem test_cp_a_a_e20 :
    (after (start [0xBF] { State.reset with a := 0x99, f := 0x10 })).map (fun t => (t.f, t.pc, t.cycles)) =
      some (0xC0, 0x0101, 4) := by decide

/-- Vector E21 of 95_test_vectors.md (R156). -/
theorem test_cp_a_d8_e21 :
    (after (start [0xFE, 0x90] { State.reset with a := 0x10, f := 0x00 })).map (fun t => (t.f, t.pc, t.cycles)) =
      some (0x50, 0x0102, 8) := by decide

/-- Vector F2 of 95_test_vectors.md (R145). -/
theorem test_and_a_b_f2 :
    (after (start [0xA0] { State.reset with a := 0xF0, b := 0x0F, f := 0x50 })).map (fun t => (t.a, t.f, t.pc, t.cycles)) =
      some (0x00, 0xA0, 0x0101, 4) := by decide

/-- Vector F4 of 95_test_vectors.md (R146). -/
theorem test_and_a_atHL_f4 :
    (after (start [0xA6] (State.memWrite { State.reset with a := 0x5A, h := 0xC0, l := 0x00 } 0xC000 0x00))).map (fun t => (t.a, t.f, t.pc, t.cycles)) =
      some (0x00, 0xA0, 0x0101, 8) := by decide

/-- Vector F5 of 95_test_vectors.md (R147). -/
theorem test_and_a_d8_f5 :
    (after (start [0xE6, 0x38] { State.reset with a := 0x5A })).map (fun t => (t.a, t.f, t.pc, t.cycles)) =
      some (0x18, 0x20, 0x0102, 8) := by decide

/-- Vector F6 of 95_test_vectors.md (R148). -/
theorem test_xor_a_a_f6 :
    (after (start [0xAF] { State.reset with a := 0xC7, f := 0xF0 })).map (fun t => (t.a, t.f, t.pc, t.cycles)) =
      some (0x00, 0x80, 0x0101, 4) := by decide

/-- Vector F8 of 95_test_vectors.md (R149). -/
theorem test_xor_a_atHL_f8 :
    (after (start [0xAE] (State.memWrite { State.reset with a := 0xFF, h := 0xC0, l := 0x00 } 0xC000 0x8A))).map (fun t => (t.a, t.f, t.pc, t.cycles)) =
      some (0x75, 0x00, 0x0101, 8) := by decide

/-- Vector F9 of 95_test_vectors.md (R150). -/
theorem test_xor_a_d8_f9 :
    (after (start [0xEE, 0x0F] { State.reset with a := 0xFF, f := 0xF0 })).map (fun t => (t.a, t.f, t.pc, t.cycles)) =
      some (0xF0, 0x00, 0x0102, 8) := by decide

/-- Vector F11 of 95_test_vectors.md (R151). -/
theorem test_or_a_c_f11 :
    (after (start [0xB1] { State.reset with a := 0x5A, c := 0x03, f := 0xF0 })).map (fun t => (t.a, t.f, t.pc, t.cycles)) =
      some (0x5B, 0x00, 0x0101, 4) := by decide

/-- Vector F13 of 95_test_vectors.md (R152). -/
theorem test_or_a_atHL_f13 :
    (after (start [0xB6] (State.memWrite { State.reset with a := 0x5A, h := 0xC0, l := 0x00 } 0xC000 0x0F))).map (fun t => (t.a, t.f, t.pc, t.cycles)) =
      some (0x5F, 0x00, 0x0101, 8) := by decide

/-- Vector F14 of 95_test_vectors.md (R153). -/
theorem test_or_a_d8_f14 :
    (after (start [0xF6, 0x00] { State.reset with a := 0x00 })).map (fun t => (t.f, t.pc, t.cycles)) =
      some (0x80, 0x0102, 8) := by decide

/-- Vector G3 of 95_test_vectors.md (R129). -/
theorem test_daa_g3 :
    (after (start [0x27] { State.reset with a := 0x9A, f := 0x00 })).map (fun t => (t.a, t.f, t.pc, t.cycles)) =
      some (0x00, 0x90, 0x0101, 4) := by decide

/-- Vector G15 of 95_test_vectors.md (R129). -/
theorem test_daa_g15 :
    (after (start [0x27] { State.reset with a := 0x9A, f := 0x40 })).map (fun t => (t.f, t.pc, t.cycles)) =
      some (0x40, 0x0101, 4) := by decide

/-- Vector G20 of 95_test_vectors.md (R130). -/
theorem test_scf_g20 :
    (after (start [0x37] { State.reset with f := 0xE0 })).map (fun t => (t.f, t.pc, t.cycles)) =
      some (0x90, 0x0101, 4) := by decide

/-- Vector G22 of 95_test_vectors.md (R130). -/
theorem test_scf_g22 :
    (after (start [0x37] { State.reset with a := 0x55, f := 0x80 })).map (fun t => (t.f, t.pc, t.cycles)) =
      some (0x90, 0x0101, 4) := by decide

/-- Vector G24 of 95_test_vectors.md (R131). -/
theorem test_cpl_g24 :
    (after (start [0x2F] { State.reset with a := 0xFF, f := 0x90 })).map (fun t => (t.a, t.f, t.pc, t.cycles)) =
      some (0x00, 0xF0, 0x0101, 4) := by decide

/-- Vector G26 of 95_test_vectors.md (R132). -/
theorem test_ccf_g26 :
    (after (start [0x3F] { State.reset with f := 0xF0 })).map (fun t => (t.f, t.pc, t.cycles)) =
      some (0x80, 0x0101, 4) := by decide

/-- Vector G28 of 95_test_vectors.md (R132). -/
theorem test_ccf_g28 :
    (after (start [0x3F] { State.reset with f := 0x80 })).map (fun t => (t.f, t.pc, t.cycles)) =
      some (0x90, 0x0101, 4) := by decide

/-- Vector H1 of 95_test_vectors.md (R75). -/
theorem test_nop_h1 :
    (after (start [0x00] State.reset)).map (fun t => (t.f, t.pc, t.cycles)) =
      some (0x00, 0x0101, 4) := by decide

/-- Vector H2 of 95_test_vectors.md (R75). -/
theorem test_nop_h2 :
    (after (start [0x00] { State.reset with a := 0x12, f := 0xF0, pc := 0xFFFF })).map (fun t => (t.f, t.pc, t.cycles)) =
      some (0xF0, 0x0000, 4) := by decide

/-! ## The exception, the halted state, the Timer -/

/-- Vector H4 (R172). -/
theorem test_unknown_h4 :
    (unknown (start [0xCB, 0x12, 0x34] { State.reset with a := 0x55, f := 0xA0 })).map
      (fun r => (r.1, r.2.a, r.2.f, r.2.pc, r.2.cycles)) = some (0xCB, 0x55, 0xA0, 0x0101, 0) := by decide

/-- Vector H21 (R172): pc wraps on the error too. -/
theorem test_unknown_h21 :
    (unknown (start [0xFF] { State.reset with pc := 0xFFFF })).map (fun r => (r.1, r.2.pc)) =
      some (0xFF, 0x0000) := by decide

/-- Vector O8 (R177): going on after the exception. -/
theorem test_unknown_skip_o8 :
    ((unknown (start [0x76, 0x00] State.reset)).bind fun r => after r.2).map (fun t => (t.pc, t.cycles)) =
      some (0x0102, 4) := by decide

/-- Vector M2 (R74): an unmapped byte at pc while halted. -/
theorem test_halted_m2 :
    after (start [0x76] { State.reset with halted := true }) =
      some (start [0x76] { State.reset with halted := true }) := by decide

/-- Vector N3 (R180): the counter saturates. -/
theorem test_timer_n3 :
    (after { State.reset with cycles := 18446744073709551613 }).map (fun t => t.cycles) =
      some 18446744073709551615 := by decide

/-- Vector N4 (R180): saturated, and the instruction's other effects happen. -/
theorem test_timer_n4 :
    (after (start [0xC5] { State.reset with b := 0x12, cycles := 18446744073709551615 })).map
      (fun t => (t.cycles, t.sp, t.memRead 0xFFFD)) = some (18446744073709551615, 0xFFFC, 0x12) := by decide

/-! ## The host's operations -/

/-- Vector K4 (R192). -/
theorem test_loadImage_k4 :
    let s := (loadImage [0x3E, 0x42]
      (State.placeBytes State.reset 0x00FF [0x44, 0x11, 0x22, 0x33])).2
    (s.memRead 0x00FF, s.memRead 0x0100, s.memRead 0x0101, s.memRead 0x0102) = (0x44, 0x3E, 0x42, 0x33) := by decide

/-- Vector K2 (R192). -/
theorem test_loadImage_k2 :
    loadImage (List.replicate 65281 0xAA) State.reset = (.error .imageTooLarge, State.reset) := by
  rw [loadImage, if_neg (by rw [test_image_too_large]; decide)]

/-- Vector L1 (R25, R190). -/
theorem test_reset_l1 :
    State.resetCore
        { start [0x3E] State.reset with a := 1, f := 0x80, sp := 2, pc := 3, ime := false, halted := true, cycles := 9 } =
      start [0x3E] State.reset := by decide

/-- The bus accesses of step 10 of program P2 (R44): `LD (a16),SP`. -/
theorem test_accesses_p2 :
    stepAccesses (start [0x08, 0x10, 0xC0] { State.reset with sp := 0xD000 }) =
      [.rd 0x0100 0x08, .rd 0x0101 0x10, .rd 0x0102 0xC0, .wr 0xC010 0x00, .wr 0xC011 0xD0] := by decide

/-- The bus accesses of step 6 of program P3 (R37): `DEC (HL)`. -/
theorem test_accesses_p3 :
    stepAccesses ((start [0x35] { State.reset with h := 0xC0 }).memWrite 0xC000 0x10) =
      [.rd 0x0100 0x35, .rd 0xC000 0x10, .wr 0xC000 0x0F] := by decide

/-! ## Witnesses: values that meet the hypotheses of each statement that has some -/

/-- A state with a program, flags, a stack pointer and memory away from their reset values. -/
def sample : State :=
  (start [0xF5, 0xF1] { State.reset with a := 0x9C, f := 0xB0, b := 0xC0, c := 0x01, h := 0xC0, sp := 0x0001 }).memWrite
    0xFFFF 0x5C

theorem witness_ByteReadAfterWrite : (0x0000 : Word) ≠ 0xFFFF := by decide

theorem witness_WordAccessLittleEndian : (0x0001 : Word) ≠ 0xFFFF ∧ (0x0001 : Word) ≠ 0xFFFF + 1 := by decide

theorem witness_MemoryContentsDetermineMemory :
    Memory.wf [(0, 1), (65535, 2)] = true ∧
      ∀ addr : Word, Memory.read (Memory.write [(0, 1)] 65535 2) addr.toNat = Memory.read [(0, 1), (65535, 2)] addr.toNat :=
  ⟨rfl, fun _ => rfl⟩

theorem witness_RegisterReadAfterWrite : Reg.a ≠ .f ∧ Reg.f ≠ .a ∧ Pair.hl ≠ .af := by decide

theorem witness_PowerOnMeetsInvariants : 32 ≤ 32 ∧ 32 ≤ 64 := by decide

/-- Both results: `PUSH AF` at a saturated counter, and an unmapped byte. -/
theorem witness_StepKeepsFlagNibbleAndCounter :
    (∃ t, (sample.f &&& 0x0F = 0 ∧ 18446744073709551615 ≤ 2 ^ sample.cycw - 1) ∧
      stateAfter (step { sample with cycles := 18446744073709551615 }) = some t ∧ t.cycles = 18446744073709551615) ∧
    (∃ t, stateAfter (step (start [0x76] State.reset)) = some t ∧ t.cycles = 0) :=
  ⟨⟨_, by decide, rfl, by decide⟩, ⟨_, rfl, by decide⟩⟩

theorem witness_StepKeepsInvariant :
    sample.Inv ∧ ∃ t, stateAfter (step sample) = some t ∧ t.mem ≠ sample.mem :=
  ⟨⟨by decide, by decide, by decide, by decide⟩, _, rfl, by decide⟩

/-- Every way a state is reached, the exception among them. -/
theorem witness_ReachableStatesAreLegal :
    Reachable (loadImage [0x76, 0x00] State.reset).2.resetCore ∧
      ∃ r, step (loadImage [0x76, 0x00] State.reset).2.resetCore = .fault r ∧
        ∃ t, step r.resume = .next t ∧ Reachable t :=
  have h0 : Reachable (loadImage [0x76, 0x00] State.reset).2.resetCore :=
    .resetCore _ (.loadImage _ _ (.powerOn 64 (by decide)))
  ⟨h0, _, rfl, _, rfl, .stepOk _ _ (.stepUnknown _ _ h0 rfl) rfl⟩

/-- Halted at an unmapped byte; and a step from a state that is not halted. -/
theorem witness_HaltedStateIsTerminal :
    (start [0x76] { State.reset with halted := true }).halted = true ∧
      ∃ t, stateAfter (step sample) = some t ∧ t.halted = false := ⟨by decide, _, rfl, by decide⟩

theorem witness_UnmappedOpcodeRaises :
    (start [0xFF] { State.reset with pc := 0xFFFF }).halted = false ∧
      (start [0xFF] { State.reset with pc := 0xFFFF }).memRead 0xFFFF ∈ Spec.unmapped := by decide

/-- One state for each clause. -/
theorem witness_StepRunsDecodedInstruction :
    (start [0x76] { State.reset with halted := true }).halted = true ∧
    ((start [0xCB] State.reset).halted = false ∧ (start [0xCB] State.reset).memRead 0x0100 ∈ Spec.unmapped) ∧
    ∃ rest, sample.halted = false ∧ decode (sample.bytesAt sample.pc 3) = .ok (.push_af, rest) :=
  ⟨by decide, by decide, _, by decide, rfl⟩

/-- A three-byte instruction across the wrap. -/
theorem witness_PcAdvancesByLength :
    ∃ t, (start [0x21, 0xCD, 0xAB] { State.reset with pc := 0xFFFE }).halted = false ∧
      step (start [0x21, 0xCD, 0xAB] { State.reset with pc := 0xFFFE }) = .next t ∧ t.pc = 0x0001 :=
  ⟨_, by decide, rfl, by decide⟩

theorem witness_MemoryFollowsBusWrites : ∃ t, exec .push_af sample = .next t ∧ t.mem ≠ sample.mem :=
  ⟨_, rfl, by decide⟩

/-- The bytes stored are at 0x0000 and 0xFFFF; the next byte on each side is not stored to. -/
theorem witness_MemoryFrame :
    (∃ t, exec .push_af sample = .next t) ∧
      storedAddrs (dataAccesses Instr.push_af.form sample) = [0x0000, 0xFFFF] ∧
      (0x0001 : Word) ∉ storedAddrs (dataAccesses Instr.push_af.form sample) ∧
      (0xFFFE : Word) ∉ storedAddrs (dataAccesses Instr.push_af.form sample) :=
  ⟨⟨_, rfl⟩, by decide, by decide, by decide⟩

theorem witness_RegisterFrame :
    (∃ t, exec .pop_af sample = .next t) ∧ Reg.b ∉ Spec.writtenRegs Instr.pop_af.form ∧
      Reg.a ∈ Spec.writtenRegs Instr.pop_af.form := ⟨⟨_, rfl⟩, by decide, by decide⟩

theorem witness_FlagFrame :
    (Spec.writtenFlags Instr.ld_b_c.form = 0x00 ∧ sample.f &&& 0x0F = 0) ∧ (∃ t, exec .cpl sample = .next t ∧ t.f ≠ sample.f) ∧
      (∃ t, exec .ld_b_c sample = .next t) := ⟨by decide, ⟨_, rfl, by decide⟩, ⟨_, rfl⟩⟩

/-- `ADC A,B` with two values of F that agree on Cy only. -/
theorem witness_FlagsReadAreTheListedOnes :
    (0x50 : Byte) &&& Spec.readFlags Instr.adc_a_b.form = sample.f &&& Spec.readFlags Instr.adc_a_b.form ∧
      (0x50 : Byte) ≠ sample.f ∧ (∃ t, exec .adc_a_b sample = .next t) ∧
      ∃ u, exec .adc_a_b { sample with f := 0x50 } = .next u := ⟨by decide, by decide, ⟨_, rfl⟩, _, rfl⟩

theorem witness_StackPointerAfter :
    ∃ t, exec .push_af sample = .next t ∧ Spec.spAfter Instr.push_af.form sample = 0xFFFF := ⟨_, rfl, by decide⟩

theorem witness_NopHasNoEffect :
    State.reset.halted = false ∧ State.reset.memRead State.reset.pc = 0x00 := by decide

theorem witness_ZeroMemoryRunsForever :
    (∀ addr : Word, State.reset.memRead addr = 0x00) ∧ State.reset.halted = false ∧
      State.reset.cycles ≤ 2 ^ State.reset.cycw - 1 := ⟨fun _ => rfl, rfl, by decide⟩

theorem witness_LoadRegFromReg :
    Instr.ld_b_c.form = .ldRegReg .b .c ∧ Instr.ld_a_a.form = .ldRegReg .a .a := by decide

theorem witness_LoadRegFromHL : Instr.ld_h_atHL.form = .ldRegHL .h := by decide

theorem witness_StoreRegAtHL : Instr.ld_atHL_h.form = .ldHLReg .h := by decide

theorem witness_LoadRegImmediate : (Instr.ld_a_d8 0xFF).form = .ldRegImm .a 0xFF := by decide

/-- One case of each disjunct: a register load and a store. -/
theorem witness_ByteLoadsChangeOneByte :
    (Spec.isByteLoad Instr.ld_l_atHL.form = true ∧ ∃ t, exec .ld_l_atHL sample = .next t) ∧
    (Spec.isByteLoad Instr.ld_atHL_a.form = true ∧ ∃ t, exec .ld_atHL_a sample = .next t ∧ t.mem ≠ sample.mem) :=
  ⟨⟨by decide, _, rfl⟩, by decide, _, rfl, by decide⟩

theorem witness_LoadPairImmediate :
    (Instr.ld_de_d16 0x00FF).form =
      .ldPairImm .de (BitVec.ofNat 16 ((0x00 : Byte).toNat * 256 + (0xFF : Byte).toNat)) := by decide

theorem witness_PushStoresPair : Instr.push_bc.form = .push .bc ∧ Instr.push_hl.form = .push .hl := by decide

theorem witness_PopLoadsPair : Instr.pop_de.form = .pop .de := by decide

/-- AF to AF, AF to a pair, a pair to AF, and a pair to itself; F's low nibble is zero. -/
theorem witness_PushThenPopCopiesPair :
    Instr.push_af.form = .pushAF ∧ Instr.pop_af.form = .popAF ∧
      (∃ rr : RR, Instr.push_bc.form = .push rr ∧ Pair.bc = rr.pair) ∧
      (∃ rr : RR, Instr.pop_bc.form = .pop rr ∧ Pair.bc = rr.pair) ∧ sample.f &&& 0x0F = 0 :=
  ⟨by decide, by decide, ⟨.bc, by decide⟩, ⟨.bc, by decide⟩, by decide⟩

theorem witness_IncrementResults : Instr.inc_l.form = .incReg .l ∧ Instr.inc_a.form = .incReg .a := by decide

theorem witness_DecrementResults : Instr.dec_b.form = .decReg .b := by decide

theorem witness_AdditionResults :
    (∃ k : State → Nat, k = fun s => Spec.flagBit s.f 4) ∧ Instr.add_a_b.form = .aluReg .add .b ∧
      Instr.adc_a_a.form = .aluReg .adc .a ∧ Instr.adc_a_atHL.form = .aluHL .adc ∧
      (Instr.add_a_d8 0xFF).form = .aluImm .add 0xFF := ⟨⟨_, rfl⟩, by decide⟩

theorem witness_SubtractionResults :
    (∃ k : State → Nat, k = fun _ => 0) ∧ Instr.sub_a_a.form = .aluReg .sub .a ∧
      Instr.sbc_a_h.form = .aluReg .sbc .h ∧ Instr.sub_a_atHL.form = .aluHL .sub ∧
      (Instr.sbc_a_d8 0xFF).form = .aluImm .sbc 0xFF := ⟨⟨_, rfl⟩, by decide⟩

theorem witness_CompareResults : Instr.cp_a_c.form = .aluReg .cp .c := by decide

theorem witness_LogicResults :
    (∃ (g : Byte → Byte → Byte) (hf : Bool), g = (· &&& ·) ∧ hf = true) ∧ Instr.and_a_l.form = .aluReg .and .l ∧
      Instr.xor_a_atHL.form = .aluHL .xor ∧ (Instr.or_a_d8 0x80).form = .aluImm .or 0x80 :=
  ⟨⟨_, _, rfl, rfl⟩, by decide⟩

/-- For each clause: `INC B` with `DEC B`; `CP` with `SUB` in the three variants. -/
theorem witness_ArithmeticFamilyLaws :
    (Instr.inc_b.form = .incReg .b ∧ Instr.dec_b.form = .decReg .b ∧
      (∃ t, exec .inc_b sample = .next t) ∧ ∃ u, exec .dec_b sample = .next u) ∧
    (Instr.cp_a_b.form = .aluReg .cp .b ∧ Instr.sub_a_b.form = .aluReg .sub .b ∧
      Instr.cp_a_atHL.form = .aluHL .cp ∧ Instr.sub_a_atHL.form = .aluHL .sub ∧
      (Instr.cp_a_d8 0x2F).form = .aluImm .cp 0x2F ∧ (Instr.sub_a_d8 0x2F).form = .aluImm .sub 0x2F ∧
      (∃ t, exec .cp_a_b sample = .next t) ∧ ∃ u, exec .sub_a_b sample = .next u)  :=
  ⟨⟨by decide, by decide, ⟨_, rfl⟩, _, rfl⟩,
    by decide, by decide, by decide, by decide, by decide, by decide, ⟨_, rfl⟩, _, rfl⟩

theorem witness_LoadImageCopiesOrRefuses :
    (List.replicate 65280 (0xAA : Byte)).length ≤ 65280 ∧ 65279 < (List.replicate 65280 (0xAA : Byte)).length ∧
      65280 < (List.replicate 65281 (0xAA : Byte)).length ∧ (0x00FF : Word).toNat < 0x0100 ∧
      0x0100 + [(0x3E : Byte), 0x42].length ≤ (0x0102 : Word).toNat := by
  rw [List.length_replicate, List.length_replicate]; decide

theorem witness_BootOrderDoesNotMatter : 0 < [(0x3E : Byte)].length ∧ [(0x3E : Byte)].length ≤ 65280 := by decide

end Sys2Proof.Tests
end

section
/-! SUPPORT. The laws that the proofs of the statements of 10_state.md rest on: what a step, the host's operations and
each form keep of the state, and what they read of F. -/

namespace Sys2Proof.Machine

/-! ### The counter (R20, R180) -/

theorem addCycles_le (cycw c n : Nat) : addCycles cycw c n ≤ 2 ^ cycw - 1 := Nat.min_le_right _ _

theorem le_addCycles {cycw c : Nat} (n : Nat) (h : c ≤ 2 ^ cycw - 1) : c ≤ addCycles cycw c n :=
  Nat.le_min.mpr ⟨Nat.le_add_right c n, h⟩

/-! ### What each operation does to F's low nibble (R16, R21) -/

theorem State.setPair_low_nibble {s : State} (p : Pair) (v : Word) (h : s.f &&& 0x0F = 0) :
    (s.setPair p v).f &&& 0x0F = 0 := by
  rw [setPair_eq]
  exact State.setReg_low_nibble _ _ (State.setReg_low_nibble _ _ h)

theorem pop_low_nibble {s : State} (p : Pair) (h : s.f &&& 0x0F = 0) : (pop p s).f &&& 0x0F = 0 := by
  rw [pop_eq]
  exact State.setReg_low_nibble _ _ (State.setReg_low_nibble _ _ h)

theorem setFlagsOf_low_nibble (s : State) (x : AluResult) : (s.setFlagsOf x).f &&& 0x0F = 0 :=
  State.setFlags_low_nibble s _ _ _ _

@[simp] theorem push_f (p : Pair) (s : State) : (push p s).f = s.f := by rw [push_eq]; rfl

/-- No instruction makes F's low nibble non-zero. -/
theorem effect_low_nibble {s : State} (f : Form) (h : s.f &&& 0x0F = 0) : (effect f s).f &&& 0x0F = 0 := by
  cases f with
  | nop | ldSPImm _ | ldAbsSP _ | ldSPHL => exact h
  | push _ | pushAF => simpa [effect] using h
  | ldRegReg _ _ | ldRegHL _ | ldHLReg _ | ldRegImm _ _ | ldHLImm _ | ldABC | ldADE | ldBCA | ldDEA
  | ldhALoad _ | ldhAStore _ | ldAAbs _ | ldAbsA _ => exact Loc.write_low_nibble _ _ h
  | ldPairImm _ _ | ldHLSP _ => exact State.setPair_low_nibble _ _ h
  | pop _ | popAF => exact pop_low_nibble _ h
  | incReg _ | incHL | decReg _ | decHL | daa | aluReg _ _ | aluHL _ | aluImm _ _ =>
    exact setFlagsOf_low_nibble _ _
  | scf | cpl | ccf => exact State.setFlags_low_nibble _ _ _ _ _

/-! ### What each operation does to the canonical form of memory -/

theorem State.memWrite16_wf {s : State} (addr v : Word) (h : s.mem.wf = true) :
    (s.memWrite16 addr v).mem.wf = true :=
  State.memWrite_wf _ _ (State.memWrite_wf _ _ h)

/-- Every instruction keeps the canonical form of memory. -/
theorem effect_wf {s : State} (f : Form) (h : s.mem.wf = true) : (effect f s).mem.wf = true := by
  cases f with
  | nop | ldSPImm _ | ldSPHL | daa | scf | cpl | ccf => exact h
  | ldRegReg _ _ | ldRegHL _ | ldHLReg _ | ldRegImm _ _ | ldHLImm _ | ldABC | ldADE | ldBCA | ldDEA
  | ldhALoad _ | ldhAStore _ | ldAAbs _ | ldAbsA _ | incReg _ | incHL | decReg _ | decHL =>
    exact Loc.write_wf _ _ h
  | ldPairImm _ _ | ldHLSP _ => simpa [effect] using h
  | ldAbsSP _ => exact State.memWrite16_wf _ _ h
  | push _ | pushAF => exact push_wf _ h
  | pop _ | popAF => simpa [effect, pop_mem] using h
  | aluReg _ _ | aluHL _ | aluImm _ _ => simpa [effect] using h

/-! ### The state after a step, whichever result it returns -/

/-- The state the host holds after a step: the state before; pc one on; or the charged effect of an instruction. -/
theorem stateAfter_step_cases {s t : State} (e : stateAfter (step s) = some t) :
    t = s ∨ t = s.setPc (s.pc + 1) ∨ ∃ (i : Instr) (w : Word), t = (effect i.form (s.setPc w)).charge i.cost := by
  obtain ⟨-, hs⟩ | ⟨-, -, hs⟩ | ⟨i, -, -, -, -, hs⟩ := step_cases s <;> rw [hs] at e
  · exact .inl (Option.some.inj e).symm
  · exact .inr (.inl (Option.some.inj e).symm)
  · exact .inr (.inr ⟨i, _, (Option.some.inj e).symm⟩)

section
variable {s t : State} (e : stateAfter (step s) = some t)
include e

theorem step_cycw : t.cycw = s.cycw := by
  obtain rfl | rfl | ⟨i, w, rfl⟩ := stateAfter_step_cases e <;> simp

theorem step_ime : t.ime = s.ime := by
  obtain rfl | rfl | ⟨i, w, rfl⟩ := stateAfter_step_cases e <;> simp

theorem step_halted : t.halted = s.halted := by
  obtain rfl | rfl | ⟨i, w, rfl⟩ := stateAfter_step_cases e <;> simp

theorem step_low_nibble (h : s.f &&& 0x0F = 0) : t.f &&& 0x0F = 0 := by
  obtain rfl | rfl | ⟨i, w, rfl⟩ := stateAfter_step_cases e
  · exact h
  · exact h
  · exact effect_low_nibble i.form (s := s.setPc w) h

theorem step_wf (h : s.mem.wf = true) : t.mem.wf = true := by
  obtain rfl | rfl | ⟨i, w, rfl⟩ := stateAfter_step_cases e
  · exact h
  · exact h
  · exact effect_wf i.form (s := s.setPc w) h

/-- A step does not lower the counter and keeps it within its width. -/
theorem step_cycles (h : s.cycles ≤ 2 ^ s.cycw - 1) : s.cycles ≤ t.cycles ∧ t.cycles ≤ 2 ^ s.cycw - 1 := by
  obtain rfl | rfl | ⟨i, w, rfl⟩ := stateAfter_step_cases e
  · exact ⟨le_rfl, h⟩
  · exact ⟨le_rfl, h⟩
  · simpa using ⟨le_addCycles i.cost h, addCycles_le s.cycw s.cycles i.cost⟩

theorem step_inv (h : s.Inv) : t.Inv := by
  obtain ⟨hf, hw, hc, hm⟩ := h
  rw [State.Inv, step_cycw e]
  exact ⟨step_low_nibble e hf, hw, (step_cycles e hc).2, step_wf e hm⟩

end

/-! ### The host's other operations -/

theorem powerOn_inv {w : Nat} (h : cycwWellFormed w = true) : (State.powerOn w).Inv :=
  ⟨BitVec.zero_and, h, Nat.zero_le _, rfl⟩

theorem resetCore_inv {s : State} (h : s.Inv) : s.resetCore.Inv := by
  obtain ⟨-, hw, -, hm⟩ := h
  exact ⟨BitVec.zero_and, hw, Nat.zero_le _, hm⟩

/-- Placed bytes are in memory, and the rest of the state is as it was. -/
theorem State.placeBytes_eq (s : State) (addr : Word) (bytes : List Byte) :
    s.placeBytes addr bytes = { s with mem := (s.placeBytes addr bytes).mem } :=
  congrArg (fun u : State => { u with mem := (s.placeBytes addr bytes).mem }) (State.placeBytes_frame bytes s addr)

/-- Loading an image changes memory only, and keeps its canonical form. -/
theorem loadImage_eq (bytes : List Byte) (s : State) :
    ∃ m : Memory, (loadImage bytes s).2 = { s with mem := m } ∧ (s.mem.wf = true → m.wf = true) := by
  obtain ⟨-, hl⟩ | ⟨-, hl⟩ := loadImage_cases bytes s <;> rw [hl]
  · exact ⟨_, State.placeBytes_eq s Config.imageBase bytes, State.placeBytes_wf _ _⟩
  · exact ⟨s.mem, rfl, id⟩

theorem loadImage_inv {s : State} (bytes : List Byte) (h : s.Inv) : (loadImage bytes s).2.Inv := by
  obtain ⟨m, e, hm⟩ := loadImage_eq bytes s
  obtain ⟨hf, hw, hc, hs⟩ := h
  rw [e]
  exact ⟨hf, hw, hc, hm hs⟩

/-! ### The length of the fetched instruction (R50, R58) -/

theorem length_eq_lengthOf_opcode (i : Instr) : i.length = Spec.lengthOf i.opcode := by
  cases i <;> rfl

/-- An instruction whose bytes stand at an address has the byte there as its opcode. -/
theorem opcode_of_bytesAt {s : State} {addr : Word} {i : Instr} (h : s.bytesAt addr i.length = encode i) :
    s.memRead addr = i.opcode :=
  (List.cons.inj h).1

/-! ### Registers and SP after each operation (R13, R15) -/

theorem ne_of_not_mem_pair {r x y : Reg} (h : r ∉ [x, y]) : r ≠ x ∧ r ≠ y :=
  ⟨List.ne_of_not_mem_cons h, List.ne_of_not_mem_cons (List.not_mem_of_not_mem_cons h)⟩

theorem Loc.reg_ne_reg {x r : Reg} (h : r ≠ x) : Loc.reg x ≠ .reg r := fun e => h (Loc.reg.inj e).symm

/-- Writing a place leaves every register that is not the place. -/
theorem Loc.write_reg_of_ne {p : Loc} {r : Reg} (v : Byte) (s : State) (h : p ≠ .reg r) :
    (p.write v s).reg r = s.reg r := by
  obtain ⟨r', rfl, -, e⟩ | ⟨addr, -, e⟩ := Loc.write_cases p v s <;> rw [e]
  · exact State.setReg_reg_of_ne s v fun hr => h (hr ▸ rfl)
  · exact State.memWrite_reg s addr v r

theorem load8_reg_of_ne {p : Loc} {r : Reg} (x : Src) (s : State) (h : p ≠ .reg r) :
    (load8 p x s).reg r = s.reg r := Loc.write_reg_of_ne _ s h

theorem incLoc_reg_of_ne {p : Loc} {r : Reg} (s : State) (h : p ≠ .reg r) (hf : r ≠ .f) :
    (incLoc p s).reg r = s.reg r := by
  rw [incLoc_eq, setFlagsOf_reg_of_ne _ _ hf, Loc.write_reg_of_ne _ _ h]

theorem decLoc_reg_of_ne {p : Loc} {r : Reg} (s : State) (h : p ≠ .reg r) (hf : r ≠ .f) :
    (decLoc p s).reg r = s.reg r := by
  rw [decLoc_eq, setFlagsOf_reg_of_ne _ _ hf, Loc.write_reg_of_ne _ _ h]

theorem State.setPair_reg_of_ne {p : Pair} {r : Reg} (s : State) (v : Word) (hhi : r ≠ p.hi) (hlo : r ≠ p.lo) :
    (s.setPair p v).reg r = s.reg r := by
  rw [setPair_eq, State.setReg_reg_of_ne _ _ hhi, State.setReg_reg_of_ne _ _ hlo]

@[simp] theorem push_reg (p : Pair) (s : State) (r : Reg) : (push p s).reg r = s.reg r := by
  rw [push_eq]; simp

theorem pop_reg_of_ne {p : Pair} {r : Reg} (s : State) (hhi : r ≠ p.hi) (hlo : r ≠ p.lo) :
    (pop p s).reg r = s.reg r := by
  rw [pop_eq, State.setSp_reg, State.setReg_reg_of_ne _ _ hhi, State.setReg_reg_of_ne _ _ hlo]

@[simp] theorem State.memWrite16_reg (s : State) (addr v : Word) (r : Reg) :
    (s.memWrite16 addr v).reg r = s.reg r := by simp [State.memWrite16]

/-- The registers an accumulator operation writes (R120, R154). -/
theorem aluA_reg_of_not_mem {op : AluOp} {r : Reg} (x : Src) (s : State)
    (h : r ∉ if op = .cp then [Reg.f] else [.a, .f]) : (aluA op x s).reg r = s.reg r := by
  have hf : r ≠ .f := by rintro rfl; split at h <;> simp at h
  rw [aluA_eq, setFlagsOf_reg_of_ne _ _ hf]
  split
  · next hw =>
    have ha : r ≠ .a := by rintro rfl; cases op <;> simp [aluWritesA] at h hw
    exact State.setReg_reg_of_ne s _ ha
  · rfl

/-- Every register but those the form writes is as before. -/
theorem effect_reg_of_not_mem {f : Form} {r : Reg} (s : State) (h : r ∉ Spec.writtenRegs f) :
    (effect f s).reg r = s.reg r := by
  cases f with
  | nop => rfl
  | ldRegReg _ _ | ldRegHL _ | ldRegImm _ _ | ldABC | ldADE | ldhALoad _ | ldAAbs _ =>
    exact load8_reg_of_ne _ s (Loc.reg_ne_reg (List.ne_of_not_mem_cons h))
  | ldHLReg _ | ldHLImm _ | ldBCA | ldDEA | ldhAStore _ | ldAbsA _ => exact load8_reg_of_ne _ s nofun
  | ldSPImm _ | ldSPHL => exact State.setSp_reg s _ r
  | ldAbsSP _ => exact State.memWrite16_reg s _ _ r
  | push _ | pushAF => exact push_reg _ s r
  | ldPairImm _ _ | ldHLSP _ =>
    obtain ⟨h1, h2⟩ := ne_of_not_mem_pair h
    exact State.setPair_reg_of_ne s _ h1 h2
  | pop _ | popAF =>
    obtain ⟨h1, h2⟩ := ne_of_not_mem_pair h
    exact pop_reg_of_ne s h1 h2
  | incReg _ =>
    obtain ⟨h1, h2⟩ := ne_of_not_mem_pair h
    exact incLoc_reg_of_ne s (Loc.reg_ne_reg h1) h2
  | decReg _ =>
    obtain ⟨h1, h2⟩ := ne_of_not_mem_pair h
    exact decLoc_reg_of_ne s (Loc.reg_ne_reg h1) h2
  | incHL => exact incLoc_reg_of_ne s nofun (List.ne_of_not_mem_cons h)
  | decHL => exact decLoc_reg_of_ne s nofun (List.ne_of_not_mem_cons h)
  | scf | ccf => exact State.setReg_reg_of_ne s _ (List.ne_of_not_mem_cons h)
  | daa | cpl =>
    obtain ⟨h1, h2⟩ := ne_of_not_mem_pair h
    exact (State.setReg_reg_of_ne _ _ h2).trans (State.setReg_reg_of_ne s _ h1)
  | aluReg _ _ | aluHL _ | aluImm _ _ => exact aluA_reg_of_not_mem _ s h

@[simp] theorem push_sp (p : Pair) (s : State) : (push p s).sp = s.sp - 2 := by rw [push_eq]; rfl

@[simp] theorem pop_sp (p : Pair) (s : State) : (pop p s).sp = s.sp + 2 := by rw [pop_eq]; rfl

theorem pair_hl_eq (s : State) : s.pair .hl = Spec.hl s := wordOf_eq_ofNat s.h s.l

theorem effect_sp (f : Form) (s : State) : (effect f s).sp = Spec.spAfter f s := by
  cases f with
  | push _ | pushAF => exact push_sp _ s
  | pop _ | popAF => exact pop_sp _ s
  | ldSPHL => exact pair_hl_eq s
  | nop | ldSPImm _ | ldAbsSP _ | daa | scf | cpl | ccf => rfl
  | ldRegReg _ _ | ldRegHL _ | ldHLReg _ | ldRegImm _ _ | ldHLImm _ | ldABC | ldADE | ldBCA | ldDEA
  | ldhALoad _ | ldhAStore _ | ldAAbs _ | ldAbsA _ => exact load8_sp _ _ s
  | ldPairImm _ _ | ldHLSP _ => exact State.setPair_sp s _ _
  | incReg _ | incHL => exact incLoc_sp _ s
  | decReg _ | decHL => exact decLoc_sp _ s
  | aluReg _ _ | aluHL _ | aluImm _ _ => exact aluA_sp _ _ s

/-! ### Reading back flags and pairs (R12, R16) -/

theorem getLsbD_iff_flagBit (f : Byte) (k : Nat) : f.getLsbD k = true ↔ Spec.flagBit f k = 1 := by
  rw [BitVec.getLsbD, Nat.testBit_eq_decide_div_mod_eq, decide_eq_true_eq, Spec.flagBit]

/-- The spec's sum of bit values is the model's byte of four bits. -/
theorem flags_eq_flagsByte (z n hf cy : Bool) : Spec.flags z n hf cy = flagsByte z n hf cy := by
  cases z <;> cases n <;> cases hf <;> cases cy <;> rfl

theorem State.setFlags_eq (s : State) (z n hf cy : Bool) :
    s.setFlags z n hf cy = { s with f := Spec.flags z n hf cy } := by
  rw [flags_eq_flagsByte, ← flagsByte_mask]; rfl

/-- A written pair is read back, but for what a write to its low register drops. -/
theorem State.setPair_pair (s : State) (p : Pair) (v : Word) :
    (s.setPair p v).pair p = if p = .af then v &&& 0xFFF0 else v := by
  cases p with
  | bc | de | hl => exact wordOf_hiByte_loByte v
  | af =>
    calc wordOf (hiByte v) (loByte v &&& 0xF0)
      _ = wordOf (hiByte v &&& 0xFF) (loByte v &&& 0xF0) :=
        congrArg (wordOf · _) BitVec.and_allOnes.symm
      _ = wordOf (hiByte v) (loByte v) &&& 0xFFF0 := BitVec.and_append.symm
      _ = v &&& 0xFFF0 := by rw [wordOf_hiByte_loByte]

/-! ### What is read of F (R17, R158) -/

/-- A state with another value of F, as the statement about the flags read sets it. -/
def State.withF (s : State) (g : Byte) : State := { s with f := g }

theorem State.withF_reg {r : Reg} (s : State) (g : Byte) (h : r ≠ .f) : (s.withF g).reg r = s.reg r := by
  cases r with
  | f => exact absurd rfl h
  | a | b | c | d | e | h | l => rfl

theorem State.withF_pair {p : Pair} (s : State) (g : Byte) (h : p ≠ .af) : (s.withF g).pair p = s.pair p := by
  cases p with
  | af => exact absurd rfl h
  | bc | de | hl => rfl

theorem State.withF_setReg {r : Reg} (s : State) (g v : Byte) (h : r ≠ .f) :
    (s.withF g).setReg r v = (s.setReg r v).withF g := by
  cases r with
  | f => exact absurd rfl h
  | a | b | c | d | e | h | l => rfl

theorem State.withF_setPair {p : Pair} (s : State) (g : Byte) (v : Word) (h : p ≠ .af) :
    (s.withF g).setPair p v = (s.setPair p v).withF g := by
  cases p with
  | af => exact absurd rfl h
  | bc | de | hl => rfl

@[simp] theorem RR.pair_ne_af (rr : RR) : rr.pair ≠ .af := by cases rr <;> decide

/-- A place whose byte and whose address do not depend on F. -/
def Loc.AvoidsF : Loc → Prop
  | .reg r => r ≠ .f
  | .atPair p => p ≠ .af
  | .zeroPage _ => True
  | .absolute _ => True

theorem Loc.read_withF {p : Loc} (s : State) (g : Byte) (h : p.AvoidsF) : p.read (s.withF g) = p.read s := by
  cases p with
  | reg r => exact State.withF_reg s g h
  | atPair p => exact congrArg s.memRead (State.withF_pair s g h)
  | zeroPage _ | absolute _ => rfl

theorem Loc.write_withF {p : Loc} (v : Byte) (s : State) (g : Byte) (h : p.AvoidsF) :
    p.write v (s.withF g) = (p.write v s).withF g := by
  cases p with
  | reg r => exact State.withF_setReg s g v h
  | atPair p => exact congrArg (fun a => (s.memWrite a v).withF g) (State.withF_pair s g h)
  | zeroPage _ | absolute _ => rfl

/-- A source that does not depend on F. -/
def Src.AvoidsF : Src → Prop
  | .loc p => p.AvoidsF
  | .imm _ => True

theorem Src.read_withF {x : Src} (s : State) (g : Byte) (h : x.AvoidsF) : x.read (s.withF g) = x.read s := by
  cases x with
  | loc p => exact Loc.read_withF s g h
  | imm _ => rfl

theorem load8_withF {p : Loc} {x : Src} (s : State) (g : Byte) (hp : p.AvoidsF) (hx : x.AvoidsF) :
    load8 p x (s.withF g) = (load8 p x s).withF g := by
  rw [load8, Src.read_withF s g hx, Loc.write_withF _ s g hp, load8]

theorem push_withF {p : Pair} (s : State) (g : Byte) (h : p ≠ .af) : push p (s.withF g) = (push p s).withF g := by
  cases p with
  | af => exact absurd rfl h
  | bc | de | hl => rfl

theorem pop_withF {p : Pair} (s : State) (g : Byte) (h : p ≠ .af) : pop p (s.withF g) = (pop p s).withF g := by
  cases p with
  | af => exact absurd rfl h
  | bc | de | hl => rfl

/-- `POP AF` replaces whatever F held. -/
theorem pop_af_withF (s : State) (g : Byte) : pop .af (s.withF g) = pop .af s := rfl

/-! #### Flags that two values of F agree on -/

theorem getLsbD_eq_of_and_eq {x y m : Byte} {k : Nat} (h : x &&& m = y &&& m) (hk : m.getLsbD k = true) :
    x.getLsbD k = y.getLsbD k := by
  have := congrArg (·.getLsbD k) h
  simpa [hk] using this

/-- The Z, N and Hf bits of a flag byte do not depend on Cy. -/
theorem flagsByte_and_E0 (z n hf cy cy2 : Bool) : flagsByte z n hf cy &&& 0xE0 = flagsByte z n hf cy2 &&& 0xE0 := by
  cases z <;> cases n <;> cases hf <;> cases cy <;> cases cy2 <;> rfl

/-- The N, Hf and Cy bits of a flag byte do not depend on Z. -/
theorem flagsByte_and_70 (z z2 n hf cy : Bool) : flagsByte z n hf cy &&& 0x70 = flagsByte z2 n hf cy &&& 0x70 := by
  cases z <;> cases z2 <;> cases n <;> cases hf <;> cases cy <;> rfl

/-- The N and Hf bits of a flag byte depend on neither Z nor Cy. -/
theorem flagsByte_and_60 (z z2 n hf cy cy2 : Bool) :
    flagsByte z n hf cy &&& 0x60 = flagsByte z2 n hf cy2 &&& 0x60 := by
  cases z <;> cases z2 <;> cases n <;> cases hf <;> cases cy <;> cases cy2 <;> rfl

/-! #### The operations on A and F -/

/-- An operation, started with `g` in F, leaves what it leaves from `s` but for F, and in F the same flags of the mask
`m`. -/
def SameButF (op : State → State) (s : State) (g m : Byte) : Prop :=
  ∃ g2 : Byte, op (s.withF g) = (op s).withF g2 ∧ g2 &&& m = (op s).f &&& m

/-- An operation that does not depend on F leaves all of it the same. -/
theorem SameButF.of_eq {op : State → State} {s : State} {g : Byte} (m : Byte) (h : op (s.withF g) = op s) :
    SameButF op s g m := ⟨(op s).f, h, rfl⟩

/-- An operation that only passes F on writes no flag. -/
theorem SameButF.of_withF {op : State → State} {s : State} {g g2 : Byte} (h : op (s.withF g) = (op s).withF g2) :
    SameButF op s g 0x00 := ⟨g2, h, BitVec.and_zero.trans BitVec.and_zero.symm⟩

/-- Written flags replace whatever F held. -/
theorem setFlagsOf_withF (s : State) (g : Byte) (x y : AluResult) :
    (s.withF g).setFlagsOf y = (s.setFlagsOf x).withF (flagsByte y.z y.n y.hf y.cy) := by
  rw [setFlagsOf_eq, setFlagsOf_eq]; rfl

theorem setFlagsOf_f (s : State) (x : AluResult) : (s.setFlagsOf x).f = flagsByte x.z x.n x.hf x.cy :=
  State.setFlags_f s _ _ _ _

/-- An operation that writes Z, N and Hf the same and passes Cy on. -/
theorem SameButF.of_kept_cy {op : State → State} {s w : State} {g : Byte} {r : AluResult} {cy : Bool}
    (h : op s = w.setFlagsOf r) (hg : op (s.withF g) = (w.withF g).setFlagsOf { r with cy := cy }) :
    SameButF op s g 0xE0 := by
  refine ⟨flagsByte r.z r.n r.hf cy, ?_, ?_⟩
  · rw [h, hg]; exact setFlagsOf_withF w g r _
  · rw [h, setFlagsOf_f]; exact flagsByte_and_E0 _ _ _ _ _

theorem incLoc_sameButF {p : Loc} (s : State) (g : Byte) (h : p.AvoidsF) : SameButF (incLoc p) s g 0xE0 :=
  .of_kept_cy (incLoc_eq p s) (cy := (s.withF g).flagC)
    (by rw [incLoc_eq, Loc.read_withF s g h, Loc.write_withF _ s g h]; rfl)

theorem decLoc_sameButF {p : Loc} (s : State) (g : Byte) (h : p.AvoidsF) : SameButF (decLoc p) s g 0xE0 :=
  .of_kept_cy (decLoc_eq p s) (cy := (s.withF g).flagC)
    (by rw [decLoc_eq, Loc.read_withF s g h, Loc.write_withF _ s g h]; rfl)

/-- `SCF` passes Z on. -/
theorem setCarry_sameButF (s : State) (g : Byte) : SameButF setCarry s g 0x70 := by
  refine ⟨flagsByte (s.withF g).flagZ false false true, ?_, ?_⟩
  · rw [setCarry_eq, setCarry_eq]; rfl
  · rw [setCarry_eq]; exact flagsByte_and_70 _ _ _ _ _

/-- `CPL` passes Z and Cy on. -/
theorem complementA_sameButF (s : State) (g : Byte) : SameButF complementA s g 0x60 := by
  refine ⟨flagsByte (s.withF g).flagZ true true (s.withF g).flagC, ?_, ?_⟩
  · rw [complementA_eq, complementA_eq]; rfl
  · rw [complementA_eq]; exact flagsByte_and_60 _ _ _ _ _ _

/-- `CCF` passes Z on and reads Cy. -/
theorem complementCarry_sameButF {s : State} {g : Byte} (h : g &&& 0x10 = s.f &&& 0x10) :
    SameButF complementCarry s g 0x70 := by
  have hc : (s.withF g).flagC = s.flagC := getLsbD_eq_of_and_eq h rfl
  refine ⟨flagsByte (s.withF g).flagZ false false (!s.flagC), ?_, ?_⟩
  · rw [complementCarry_eq, complementCarry_eq, hc]; rfl
  · rw [complementCarry_eq]; exact flagsByte_and_70 _ _ _ _ _

/-- `DAA` reads N, Hf and Cy. -/
theorem adjustA_withF {s : State} {g : Byte} (h : g &&& 0x70 = s.f &&& 0x70) : adjustA (s.withF g) = adjustA s := by
  have hn : (s.withF g).flagN = s.flagN := getLsbD_eq_of_and_eq h rfl
  have hh : (s.withF g).flagH = s.flagH := getLsbD_eq_of_and_eq h rfl
  have hc : (s.withF g).flagC = s.flagC := getLsbD_eq_of_and_eq h rfl
  rw [adjustA_eq, adjustA_eq, hn, hh, hc]; rfl

/-- Only `ADC` and `SBC` use the old Cy. -/
theorem aluResult_congr_cy {op : AluOp} (a v : Byte) {c c2 : Bool} (h : op = .adc ∨ op = .sbc → c = c2) :
    aluResult op a v c = aluResult op a v c2 := by
  cases op with
  | adc => rw [h (.inl rfl)]
  | sbc => rw [h (.inr rfl)]
  | add | sub | and | xor | or | cp => rfl

/-- `ADC` and `SBC` read Cy, and the other accumulator operations no flag; all four flags are written. -/
theorem aluA_withF {op : AluOp} {x : Src} {s : State} {g : Byte} (hx : x.AvoidsF)
    (h : g &&& (if op = .adc ∨ op = .sbc then 0x10 else 0x00) =
      s.f &&& (if op = .adc ∨ op = .sbc then 0x10 else 0x00)) :
    aluA op x (s.withF g) = aluA op x s := by
  have hc : op = .adc ∨ op = .sbc → (s.withF g).flagC = s.flagC := by
    intro hop
    rw [if_pos hop] at h
    exact getLsbD_eq_of_and_eq h rfl
  rw [aluA_eq, aluA_eq, Src.read_withF s g hx, show (s.withF g).a = s.a from rfl, aluResult_congr_cy _ _ hc]
  split <;> rfl

/-! #### The forms -/

theorem R8.reg_avoidsF (r : R8) : (Loc.reg r.reg).AvoidsF := R8.reg_ne_f r

/-- Started with two values of F that agree on the flags the form reads, it leaves the same state but for F, and the
same values in the flags it writes. -/
theorem effect_sameButF {f : Form} {s : State} {g : Byte} (h : g &&& Spec.readFlags f = s.f &&& Spec.readFlags f) :
    SameButF (effect f) s g (Spec.writtenFlags f) := by
  cases f with
  | nop | ldSPImm _ | ldAbsSP _ | ldSPHL => exact .of_withF (g2 := g) rfl
  | ldABC | ldADE | ldBCA | ldDEA | ldhALoad _ | ldhAStore _ | ldAAbs _ | ldAbsA _ | ldHLImm _ =>
    exact .of_withF (g2 := g) rfl
  | ldRegReg r r2 => exact .of_withF (load8_withF s g (R8.reg_avoidsF r) (R8.reg_avoidsF r2))
  | ldRegHL r => exact .of_withF (load8_withF s g (R8.reg_avoidsF r) nofun)
  | ldHLReg r => exact .of_withF (load8_withF s g nofun (R8.reg_avoidsF r))
  | ldRegImm r _ => exact .of_withF (load8_withF s g (R8.reg_avoidsF r) trivial)
  | ldPairImm rr _ => exact .of_withF (State.withF_setPair s g _ (RR.pair_ne_af rr))
  | ldHLSP _ => exact .of_withF (g2 := g) rfl
  | push rr => exact .of_withF (push_withF s g (RR.pair_ne_af rr))
  | pushAF =>
    have hg : g = s.f := BitVec.and_allOnes.symm.trans (h.trans BitVec.and_allOnes)
    exact .of_withF (g2 := s.f) (by rw [hg]; rfl)
  | pop rr => exact .of_withF (pop_withF s g (RR.pair_ne_af rr))
  | popAF => exact .of_eq _ (pop_af_withF s g)
  | incReg r => exact incLoc_sameButF s g (R8.reg_avoidsF r)
  | incHL => exact incLoc_sameButF s g nofun
  | decReg r => exact decLoc_sameButF s g (R8.reg_avoidsF r)
  | decHL => exact decLoc_sameButF s g nofun
  | daa => exact .of_eq _ (adjustA_withF h)
  | scf => exact setCarry_sameButF s g
  | cpl => exact complementA_sameButF s g
  | ccf => exact complementCarry_sameButF h
  | aluReg _ r => exact .of_eq _ (aluA_withF (R8.reg_avoidsF r) h)
  | aluHL _ => exact .of_eq _ (aluA_withF nofun h)
  | aluImm _ _ => exact .of_eq _ (aluA_withF trivial h)

end Sys2Proof.Machine
end

section
/-! The statements of 10_state.md, settled. -/

namespace Sys2Proof.Proofs

open Sys2Proof.Machine

/-- Settles O9: each part of the invariant is kept by the three things a step can do. -/
theorem stepKeepsInvariant : Obligations.StepKeepsInvariant :=
  fun _ _ h e => ⟨step_inv e h, step_cycw e⟩

/-- Settles O8: reset clears F and the counter; a step masks every write to F and charges with saturation. -/
theorem stepKeepsFlagNibbleAndCounter : Obligations.StepKeepsFlagNibbleAndCounter :=
  ⟨fun _ => ⟨BitVec.zero_and, Nat.zero_le _⟩, fun _ _ hf hc e => ⟨step_low_nibble e hf, step_cycles e hc⟩⟩

/-- Settles O10, by induction on how the state was reached. -/
theorem reachableStatesAreLegal : Obligations.ReachableStatesAreLegal := by
  intro s h
  induction h with
  | powerOn cycw h => exact ⟨powerOn_inv h, rfl, rfl⟩
  | stepOk s t _ e ih =>
    obtain ⟨hinv, hime, hhalt⟩ := ih
    have e : stateAfter (step s) = some t := by rw [e]; rfl
    exact ⟨step_inv e hinv, (step_ime e).trans hime, (step_halted e).trans hhalt⟩
  | stepUnknown s r _ e ih =>
    obtain ⟨hinv, hime, hhalt⟩ := ih
    have e : stateAfter (step s) = some r.resume := by rw [e]; rfl
    exact ⟨step_inv e hinv, (step_ime e).trans hime, (step_halted e).trans hhalt⟩
  | resetCore s _ ih =>
    obtain ⟨hinv, -, -⟩ := ih
    exact ⟨resetCore_inv hinv, rfl, rfl⟩
  | loadImage s bytes _ ih =>
    obtain ⟨hinv, hime, hhalt⟩ := ih
    obtain ⟨m, e, -⟩ := loadImage_eq bytes s
    exact ⟨loadImage_inv bytes hinv, by rw [e]; exact hime, by rw [e]; exact hhalt⟩

/-- Settles O15: the step's instruction is the one whose bytes stand at pc, and its opcode tells its length. -/
theorem pcAdvancesByLength : Obligations.PcAdvancesByLength := by
  intro s t hrun e
  obtain ⟨hh, -⟩ | ⟨-, -, hs⟩ | ⟨i, -, -, hb, -, hs⟩ := step_cases s
  · rw [hrun] at hh; cases hh
  · rw [hs] at e; cases e
  · rw [hs] at e
    cases e
    rw [opcode_of_bytesAt hb, ← length_eq_lengthOf_opcode]
    simp

/-- Settles O20, form by form. -/
theorem registerFrame : Obligations.RegisterFrame := by
  intro i s t e r hr
  rw [exec_next_iff.mp e, effect_reg_of_not_mem s hr]

/-- Settles O22, form by form: an operation depends on F through the flags it reads, or only passes F on. -/
theorem flagsReadAreTheListedOnes : Obligations.FlagsReadAreTheListedOnes := by
  intro i s t u g h ht hu
  obtain ⟨g2, e, hm⟩ := effect_sameButF h
  obtain rfl : u = (effect i.form s).withF g2 := (exec_next_iff.mp hu).trans e
  obtain rfl := exec_next_iff.mp ht
  exact ⟨fun r hr => State.withF_reg _ g2 hr, rfl, rfl, hm⟩

/-- Settles O23, form by form. -/
theorem stackPointerAfter : Obligations.StackPointerAfter := by
  intro i s t e
  rw [exec_next_iff.mp e, effect_sp]

/-- Settles O4, from the laws of one register write, one flag write and one pair write. -/
theorem registerReadAfterWrite : Obligations.RegisterReadAfterWrite := by
  refine ⟨fun s => ?_, State.setFlags_eq, fun s r other v => ?_, fun s p v => ⟨wordOf_eq_ofNat _ _, fun hp => ?_, ?_⟩⟩
  · exact ⟨getLsbD_iff_flagBit s.f 7, getLsbD_iff_flagBit s.f 6, getLsbD_iff_flagBit s.f 5, getLsbD_iff_flagBit s.f 4⟩
  · exact ⟨by rw [State.setReg_reg, if_pos rfl], State.setReg_reg_of_ne s v, by simp⟩
  · rw [State.setPair_pair, if_neg hp]
  · rw [State.setPair_pair, if_pos rfl]

/-- Settles O5: each value is the one `State.reset` lists, and memory is passed on. -/
theorem resetGivesCoreValues : Obligations.ResetGivesCoreValues :=
  fun _ => ⟨rfl, rfl, rfl, rfl, rfl, rfl, rfl, rfl, rfl, rfl, rfl, rfl, rfl, rfl⟩

/-- Settles O7, by the values `State.powerOn` lists. -/
theorem powerOnMeetsInvariants : Obligations.PowerOnMeetsInvariants :=
  fun _ h => powerOn_inv (decide_eq_true h)

end Sys2Proof.Proofs
end

section
/-! SUPPORT. The laws that the proofs of the statements of 20_memory.md rest on: canonical memory, the words, the bytes
placed and fetched, and what each form does to memory. -/

namespace Sys2Proof.Machine

/-! ### Equal contents are equal data (log entry 3) -/

theorem Memory.wfFrom_cons {least k : Nat} {v : Byte} {m : Memory} :
    Memory.wfFrom least ((k, v) :: m) = true ↔
      least ≤ k ∧ k < Config.addressSpace ∧ v ≠ Config.powerOnByte ∧ Memory.wfFrom (k + 1) m = true := by
  simp only [Memory.wfFrom, Bool.and_eq_true, decide_eq_true_eq, and_assoc]

theorem Memory.read_cons_same (k : Nat) (v : Byte) (m : Memory) : Memory.read ((k, v) :: m) k = v := if_pos rfl

theorem Memory.read_cons_of_ne {k a : Nat} (v : Byte) (m : Memory) (h : k ≠ a) :
    Memory.read ((k, v) :: m) a = Memory.read m a := if_neg h

/-- An array that reads another byte than the power-on byte at an address has an entry no higher than it. -/
theorem Memory.not_wfFrom_succ {k : Nat} {m : Memory} (h : Memory.read m k ≠ Config.powerOnByte) :
    ¬ Memory.wfFrom (k + 1) m = true := fun hm => h (Memory.read_below hm (Nat.lt_succ_self k))

/-- The entries after the first of two canonical arrays read alike where the arrays do and the first entries agree: at
the first entry's own address both read as the power-on byte. -/
theorem Memory.read_tail_congr {k : Nat} {v : Byte} {m n : Memory} (hm : Memory.wfFrom (k + 1) m = true)
    (hn : Memory.wfFrom (k + 1) n = true) {a : Nat}
    (h : Memory.read ((k, v) :: m) a = Memory.read ((k, v) :: n) a) : Memory.read m a = Memory.read n a := by
  by_cases hk : k = a
  · subst hk
    rw [Memory.read_below hm (Nat.lt_succ_self k), Memory.read_below hn (Nat.lt_succ_self k)]
  · rwa [Memory.read_cons_of_ne v m hk, Memory.read_cons_of_ne v n hk] at h

/-- Two canonical arrays that read alike are equal: their first entries stand at the lowest address that does not read
as the power-on byte. -/
theorem Memory.eq_of_read_eq {least : Nat} {m n : Memory} (hm : Memory.wfFrom least m = true)
    (hn : Memory.wfFrom least n = true) (h : ∀ a < Config.addressSpace, Memory.read m a = Memory.read n a) :
    m = n := by
  induction m generalizing least n with
  | nil =>
    cases n with
    | nil => rfl
    | cons jw n =>
      obtain ⟨j, w⟩ := jw
      obtain ⟨-, hj, hw, -⟩ := Memory.wfFrom_cons.mp hn
      exact absurd ((Memory.read_cons_same j w n).symm.trans (h j hj).symm) hw
  | cons kv m ih =>
    obtain ⟨k, v⟩ := kv
    obtain ⟨hlk, hk, hv, hm'⟩ := Memory.wfFrom_cons.mp hm
    have hreadk : Memory.read n k = v := (h k hk).symm.trans (Memory.read_cons_same k v m)
    cases n with
    | nil => exact absurd hreadk.symm hv
    | cons jw n =>
      obtain ⟨j, w⟩ := jw
      obtain ⟨-, hj, hw, hn'⟩ := Memory.wfFrom_cons.mp hn
      have hreadj : Memory.read ((k, v) :: m) j = w := (h j hj).trans (Memory.read_cons_same j w n)
      have hjk : ¬ k < j := fun hlt =>
        Memory.not_wfFrom_succ (hreadk ▸ hv) (Memory.wfFrom_cons.mpr ⟨hlt, hj, hw, hn'⟩)
      have hkj : ¬ j < k := fun hlt =>
        Memory.not_wfFrom_succ (hreadj ▸ hw) (Memory.wfFrom_cons.mpr ⟨hlt, hk, hv, hm'⟩)
      obtain rfl : k = j := by omega
      obtain rfl : w = v := (Memory.read_cons_same k w n).symm.trans hreadk
      rw [ih hm' hn' fun a ha => Memory.read_tail_congr hm' hn' (h a ha)]

/-! ### Words (R33, R34) -/

theorem loByte_eq_ofNat (w : Word) : loByte w = BitVec.ofNat 8 w.toNat := by
  apply BitVec.eq_of_toNat_eq
  rw [toNat_loByte, BitVec.toNat_ofNat]

theorem hiByte_eq_ofNat (w : Word) : hiByte w = BitVec.ofNat 8 (w.toNat / 256) := by
  apply BitVec.eq_of_toNat_eq
  have := w.isLt
  rw [toNat_hiByte, BitVec.toNat_ofNat]
  omega

theorem State.memRead16_eq (s : State) (addr : Word) :
    s.memRead16 addr = wordOf (s.memRead (addr + 1)) (s.memRead addr) := rfl

theorem State.memRead_memWrite16_low (s : State) (addr v : Word) :
    (s.memWrite16 addr v).memRead addr = loByte v := by
  have hne : addr ≠ addr + 1 := by bv_omega
  rw [State.memWrite16, State.memRead_memWrite_of_ne _ _ hne, State.memRead_memWrite_same]

theorem State.memRead_memWrite16_high (s : State) (addr v : Word) :
    (s.memWrite16 addr v).memRead (addr + 1) = hiByte v := State.memRead_memWrite_same _ _ _

theorem State.memRead_memWrite16_of_ne (s : State) {addr other : Word} (v : Word) (hlo : other ≠ addr)
    (hhi : other ≠ addr + 1) : (s.memWrite16 addr v).memRead other = s.memRead other := by
  rw [State.memWrite16, State.memRead_memWrite_of_ne _ _ hhi, State.memRead_memWrite_of_ne _ _ hlo]

theorem State.memRead16_memWrite16 (s : State) (addr v : Word) : (s.memWrite16 addr v).memRead16 addr = v := by
  rw [State.memRead16_eq, State.memRead_memWrite16_low, State.memRead_memWrite16_high, wordOf_hiByte_loByte]

/-! ### Bytes placed across the wrap (R43) -/

theorem add_one_add_ofNat (addr : Word) (k : Nat) :
    addr + 1 + BitVec.ofNat 16 k = addr + BitVec.ofNat 16 (k + 1) := by
  rw [Nat.add_comm k 1, BitVec.ofNat_add, ← BitVec.add_assoc]; rfl

/-- Fewer than 65536 steps upward do not come back to an address. -/
theorem ne_add_ofNat {k : Nat} (addr : Word) (hpos : 0 < k) (hlt : k < 65536) : addr ≠ addr + BitVec.ofNat 16 k := by
  intro e
  have hk : 0 = BitVec.ofNat 16 k := (BitVec.add_right_inj addr).mp ((BitVec.add_zero addr).trans e)
  have := congrArg BitVec.toNat hk
  rw [BitVec.toNat_ofNat, Nat.mod_eq_of_lt hlt] at this
  exact hpos.ne this

/-- Placed bytes leave every byte but those at their own addresses, wrapping. -/
theorem State.memRead_placeBytes_of_ne {other : Word} (bytes : List Byte) (s : State) (addr : Word)
    (h : ∀ k < bytes.length, other ≠ addr + BitVec.ofNat 16 k) :
    (s.placeBytes addr bytes).memRead other = s.memRead other := by
  induction bytes generalizing s addr with
  | nil => rfl
  | cons v rest ih =>
    have hne : other ≠ addr := by simpa using h 0 (Nat.succ_pos _)
    rw [State.placeBytes, ih, State.memRead_memWrite_of_ne _ _ hne]
    intro k hk
    rw [add_one_add_ofNat]
    exact h (k + 1) (Nat.succ_lt_succ hk)

/-- As many bytes as memory holds, placed anywhere, are read back, across the wrap too. -/
theorem State.bytesAt_placeBytes (bytes : List Byte) (s : State) (addr : Word) (h : bytes.length ≤ 65536) :
    (s.placeBytes addr bytes).bytesAt addr bytes.length = bytes := by
  induction bytes generalizing s addr with
  | nil => rfl
  | cons v rest ih =>
    have hlen : rest.length < 65536 := h
    have hfirst : ((s.memWrite addr v).placeBytes (addr + 1) rest).memRead addr = v := by
      rw [State.memRead_placeBytes_of_ne, State.memRead_memWrite_same]
      intro k hk
      rw [add_one_add_ofNat]
      exact ne_add_ofNat addr k.succ_pos (by omega)
    rw [State.placeBytes, List.length_cons, State.bytesAt, hfirst, ih _ _ hlen.le]

/-! ### Fetching what stands at pc (R44, R50) -/

/-- Every instruction's bytes decode to it, by its format of R50: an immediate byte, an immediate word, or none. -/
theorem decode_encode (i : Instr) : Laws.RoundTrip.Statement i := by
  cases i with
  | ld_b_d8 _ | ld_c_d8 _ | ld_d_d8 _ | ld_e_d8 _ | ld_h_d8 _ | ld_l_d8 _ | ld_atHL_d8 _ | ld_a_d8 _
  | add_a_d8 _ | adc_a_d8 _ | sub_a_d8 _ | sbc_a_d8 _ | ldh_atA8_a _ | and_a_d8 _ | xor_a_d8 _ | ldh_a_atA8 _
  | or_a_d8 _ | ld_hl_spS8 _ | cp_a_d8 _ =>
    exact Laws.RoundTrip.of_f2 (by dsimp only [Instr.opcode]; rfl) rfl
  | ld_bc_d16 _ | ld_atA16_sp _ | ld_de_d16 _ | ld_hl_d16 _ | ld_sp_d16 _ | ld_atA16_a _ | ld_a_atA16 _ =>
    exact Laws.RoundTrip.of_f3 (by dsimp only [Instr.opcode]; rfl) rfl
  | _ => exact Laws.RoundTrip.of_f1 (by rfl) rfl

theorem encode_injective {i j : Instr} (h : encode i = encode j) : i = j := by
  have hi := decode_encode i []
  rw [h, decode_encode j []] at hi
  exact (Prod.ext_iff.mp (Except.ok.inj hi)).1.symm

theorem dispatchEntry_opcode_ne_none (i : Instr) : dispatchEntry i.opcode ≠ none := by
  intro hd
  have hi := decode_encode i []
  rw [encode, List.cons_append, decode, hd] at hi
  cases hi

/-- An instruction whose bytes stand at pc is the one fetched: its opcode byte tells its length, and its bytes tell
it. -/
theorem fetchInstr_of_bytesAt {s : State} {i : Instr} (h : s.bytesAt s.pc i.length = encode i) :
    fetchInstr s = .ok (i, s.setPc (s.pc + BitVec.ofNat 16 i.length)) := by
  have hop := opcode_of_bytesAt h
  obtain ⟨hd, -⟩ | ⟨j, -, hf, hj⟩ := fetchInstr_cases s
  · exact absurd (hop ▸ hd) (dispatchEntry_opcode_ne_none i)
  · have hlen : i.length = j.length := by
      rw [length_eq_lengthOf_opcode, length_eq_lengthOf_opcode, ← hop, opcode_of_bytesAt hj]
    obtain rfl : i = j := encode_injective (by rw [← h, ← hj, hlen])
    exact hf

theorem length_encode (i : Instr) : (encode i).length = i.length := rfl

theorem length_le_three (i : Instr) : i.length ≤ 3 := by
  rw [length_eq_lengthOf_opcode, Spec.lengthOf]
  split
  · decide
  · split <;> decide

/-! ### What each form does to memory (R37) -/

theorem State.memRead_congr {s t : State} (h : s.mem = t.mem) (addr : Word) : s.memRead addr = t.memRead addr :=
  congrArg (·.read addr.toNat) h

theorem push_mem (p : Pair) (s : State) :
    (push p s).mem = (s.mem.write (s.sp - 1).toNat (s.reg p.hi)).write (s.sp - 2).toNat (s.reg p.lo) := by
  rw [push_eq]; rfl

/-- The effect of a form on memory is the writes of its data accesses. -/
theorem effect_mem (f : Form) (s : State) : (effect f s).mem = (applyAccesses (dataAccesses f s) s).mem := by
  cases f with
  | nop | ldSPImm _ | ldSPHL | daa | scf | cpl | ccf => rfl
  | ldRegReg _ _ | ldRegHL _ | ldRegImm _ _ | ldABC | ldADE | ldhALoad _ | ldAAbs _
  | incReg _ | decReg _ => exact State.setReg_mem s _ _
  | ldHLReg _ | ldHLImm _ | ldBCA | ldDEA | ldhAStore _ | ldAbsA _ | ldAbsSP _ | incHL | decHL => rfl
  | ldPairImm _ _ | ldHLSP _ => exact State.setPair_mem s _ _
  | push _ | pushAF => exact push_mem _ s
  | pop _ | popAF => exact pop_mem _ s
  | aluReg _ _ | aluHL _ | aluImm _ _ => exact aluA_mem _ _ s

/-! ### The zero page (R39) -/

/-- The sum of R39 does not wrap. -/
theorem toNat_zeroPage (a8 : Byte) : (BitVec.ofNat 16 (0xFF00 + a8.toNat) : Word).toNat = 0xFF00 + a8.toNat := by
  have := a8.isLt
  rw [BitVec.toNat_ofNat, Nat.mod_eq_of_lt (by omega)]

theorem zeroPageAddr_eq_ofNat (a8 : Byte) : zeroPageAddr a8 = BitVec.ofNat 16 (0xFF00 + a8.toNat) := by
  rw [zeroPageAddr, zext16, BitVec.ofNat_add, BitVec.ofNat_toNat]; rfl

end Sys2Proof.Machine
end

section
/-! The statements of 20_memory.md, settled. -/

namespace Sys2Proof.Proofs

open Sys2Proof.Machine

/-- Settles O3, by induction on the lists: the first entries agree, and so do the rests. -/
theorem memoryContentsDetermineMemory : Obligations.MemoryContentsDetermineMemory :=
  fun _ _ hm hn h => Memory.eq_of_read_eq hm hn fun a ha => by
    have hmod : (BitVec.ofNat 16 a).toNat = a := Nat.mod_eq_of_lt ha
    exact hmod ▸ h (BitVec.ofNat 16 a)

/-- Settles O17: the placed bytes are read back, and they are no other instruction's. -/
theorem storedInstructionIsFetched : Obligations.StoredInstructionIsFetched := by
  intro s i
  have hlen : (encode i).length ≤ 65536 := (length_le_three i).trans (by decide)
  have hf := fetchInstr_of_bytesAt (s := s.placeBytes s.pc (encode i)) (i := i) (by
    rw [State.placeBytes_pc, ← length_encode, State.bytesAt_placeBytes _ s s.pc hlen])
  rwa [State.placeBytes_pc] at hf

/-- Settles O18, form by form. -/
theorem memoryFollowsBusWrites : Obligations.MemoryFollowsBusWrites := by
  intro i s t e
  rw [exec_next_iff.mp e, effect_mem]

/-- Settles O19: memory is what the data accesses leave, and they leave every byte they do not store to. -/
theorem memoryFrame : Obligations.MemoryFrame := by
  intro i s t e addr h
  calc t.memRead addr
    _ = (applyAccesses (dataAccesses i.form s) s).memRead addr :=
      State.memRead_congr (memoryFollowsBusWrites i s t e) addr
    _ = s.memRead addr := applyAccesses_frame _ s addr h

/-- Settles O1, from the laws of one byte write. -/
theorem byteReadAfterWrite : Obligations.ByteReadAfterWrite :=
  fun s addr v => ⟨State.memRead_memWrite_same s addr v, fun _ h => State.memRead_memWrite_of_ne s v h, rfl⟩

/-- Settles O2: a word write is two byte writes at addresses that differ, even when the second wraps. -/
theorem wordAccessLittleEndian : Obligations.WordAccessLittleEndian := by
  intro s addr v
  refine ⟨wordOf_eq_ofNat _ _, ?_, ?_, State.memRead16_memWrite16 s addr v,
    fun _ hlo hhi => State.memRead_memWrite16_of_ne s v hlo hhi, rfl⟩
  · rw [State.memRead_memWrite16_low, loByte_eq_ofNat]
  · rw [State.memRead_memWrite16_high, hiByte_eq_ofNat]

/-- Settles O34: with the address of R39 written as a sum, each form is the absolute one at that address. -/
theorem zeroPageLoadStore : Obligations.ZeroPageLoadStore := by
  intro a8
  refine ⟨rfl, rfl, rfl, rfl, toNat_zeroPage a8, fun s => ?_⟩
  rw [← zeroPageAddr_eq_ofNat]
  exact ⟨rfl, rfl, rfl, rfl⟩

end Sys2Proof.Proofs
end

section
/-! SUPPORT. The laws that the proofs of the statements of 30_encoding.md rest on: what the decoder answers, the opcode
map against its two other accounts (the unmapped bytes, the fields), and the pattern of the costs. -/

namespace Sys2Proof

open Sys2Proof.Machine

/-! ### The decoder by the entry of the opcode byte (R50, R58) -/

/-- The instruction an entry makes of the two bytes after the opcode byte. -/
def Entry.instr (b1 b2 : Byte) : Entry → Instr
  | .f1 i => i
  | .f2 mk => mk b1
  | .f3 mk => mk (wordOf b2 b1)

theorem decode_of_dispatchEntry_none {op : Byte} (rest : List Byte) (h : dispatchEntry op = none) :
    decode (op :: rest) = .error (.unmapped op) := by
  rw [decode, h]

/-- Three bytes are enough for every format: a mapped opcode byte is never truncated by their end. -/
theorem decode_of_dispatchEntry_some {op : Byte} {e : Entry} (b1 b2 : Byte) (h : dispatchEntry op = some e) :
    decode [op, b1, b2] = .ok (e.instr b1 b2, [op, b1, b2].drop e.length) := by
  rw [decode, h]
  cases e with
  | f1 _ | f2 _ | f3 _ => rfl

/-- What the decoder reads is the instruction's bytes, and what it answers beside it is the bytes after them: an entry's
instruction has the opcode byte it stands under and the immediate it was made of. -/
theorem eq_encode_append_of_decode {bytes : List Byte} {i : Instr} {rest : List Byte}
    (h : decode bytes = .ok (i, rest)) : bytes = encode i ++ rest := by
  cases bytes with
  | nil => cases h
  | cons op tail =>
    have henc := dispatchEntry_encode op
    rw [decode] at h
    cases hd : dispatchEntry op with
    | none => rw [hd] at h; cases h
    | some e =>
      rw [hd] at h henc
      cases e with
      | f1 j => cases h; rw [henc]; rfl
      | f2 mk =>
        cases tail with
        | nil => cases h
        | cons v tail => cases h; rw [henc]; rfl
      | f3 mk =>
        match tail, h with
        | lo :: hi :: _, rfl => rw [henc, loByte_wordOf, hiByte_wordOf]; rfl

/-- The first byte of what decodes is the opcode, which tells how many bytes the decoder consumes. -/
theorem decode_consumes_lengthOf {op : Byte} {tail rest : List Byte} {i : Instr}
    (h : decode (op :: tail) = .ok (i, rest)) :
    i.length = Spec.lengthOf op ∧ rest = (op :: tail).drop (Spec.lengthOf op) := by
  have hbytes := eq_encode_append_of_decode h
  obtain rfl : op = i.opcode := (List.cons.inj hbytes).1
  rw [← length_eq_lengthOf_opcode, hbytes, ← length_encode, List.drop_left]
  exact ⟨rfl, rfl⟩

/-! ### The opcode map against the spec's two other accounts of it, byte by byte -/

/-- The bytes without an entry are the 69 that the spec lists (R57). -/
theorem dispatchEntry_eq_none_iff (op : Byte) : dispatchEntry op = none ↔ op ∈ Spec.unmapped := by
  have h : ∀ n : Fin 256,
      (dispatchEntry (BitVec.ofFin n)).isNone = decide (BitVec.ofFin n ∈ Spec.unmapped) := by
    intro n
    fin_cases n <;> rfl
  rw [← Option.isNone_iff_eq_none, Bool.eq_iff_iff.mp (h op.toFin), decide_eq_true_iff]

/-- The reading as fields finds the form of the entry's instruction, and none where there is no entry (R51 to R54). -/
theorem fieldForm_eq_dispatchEntry (op b1 b2 : Byte) :
    fieldForm op b1 b2 = (dispatchEntry op).map fun e => (e.instr b1 b2).form := by
  have h : ∀ n : Fin 256, fieldForm (BitVec.ofFin n) b1 b2 =
      (dispatchEntry (BitVec.ofFin n)).map fun e => (e.instr b1 b2).form := by
    intro n
    fin_cases n <;> rfl
  exact h op.toFin

/-! ### The pattern of the costs (R61) -/

/-- The column of costs, form by form, against the bytes of the format and the accesses of R37. -/
theorem Form.cost_eq (f : Form) (s : State) :
    f.cost = 4 * (f.operandBytes.length + 1) + 4 * (dataAccesses f s).length + Spec.extraTicks f := by
  cases f <;> rfl

/-! ### The bus accesses of a step that raises the exception (R44, R172) -/

theorem stepAccesses_of_dispatchEntry_none {s : State} (hrun : s.halted = false)
    (h : dispatchEntry (s.memRead s.pc) = none) : stepAccesses s = [.rd s.pc (s.memRead s.pc)] := by
  obtain ⟨-, hf⟩ | ⟨_, hd, -, -⟩ := fetchInstr_cases s
  · simp [stepAccesses, hrun, hf, fetchAccesses, readAt]
  · exact absurd h hd

end Sys2Proof
end

section
/-! The statements of 30_encoding.md, settled. -/

namespace Sys2Proof.Proofs

open Sys2Proof.Machine

/-- Settles O55: what is decoded is the instruction's bytes and the rest, and those bytes decode to it whatever comes
after them. -/
theorem decodeExactlyInvertsEncode : Obligations.DecodeExactlyInvertsEncode :=
  fun _ i rest => ⟨eq_encode_append_of_decode, fun h => h ▸ decode_encode i rest⟩

/-- Settles O12: the byte has no entry, so fetching stops after it. -/
theorem unmappedOpcodeRaises : Obligations.UnmappedOpcodeRaises := by
  intro s hrun hop
  have hd := (dispatchEntry_eq_none_iff _).mpr hop
  have hstep : step s = .fault (.unknownOpcode (s.memRead s.pc) { s with pc := s.pc + 1 }) := by
    obtain ⟨hh, -⟩ | ⟨-, -, hs⟩ | ⟨_, -, hsome, -⟩ := step_cases s
    · rw [hrun] at hh; cases hh
    · exact hs
    · exact absurd hd hsome
  exact ⟨hstep, by rw [hstep]; rfl, stepAccesses_of_dispatchEntry_none hrun hd⟩

/-- Settles O56: both readings are told by the entry of the opcode byte. -/
theorem decodeAgreesWithFields : Obligations.DecodeAgreesWithFields := by
  intro op b1 b2
  rw [fieldForm_eq_dispatchEntry]
  cases hd : dispatchEntry op with
  | none => rw [decode_of_dispatchEntry_none _ hd]; exact ⟨rfl, rfl⟩
  | some e => rw [decode_of_dispatchEntry_some b1 b2 hd]; rfl

/-- Settles O57: a byte is unmapped or has an entry, and a decoded instruction's opcode byte tells its length. -/
theorem opcodeTellsLength : Obligations.OpcodeTellsLength := by
  intro op b1 b2
  rw [← dispatchEntry_eq_none_iff]
  cases hd : dispatchEntry op with
  | none => exact .inl ⟨rfl, decode_of_dispatchEntry_none _ hd⟩
  | some e =>
    have hdec := decode_of_dispatchEntry_some b1 b2 hd
    obtain ⟨hlen, hrest⟩ := decode_consumes_lengthOf hdec
    exact .inr ⟨nofun, e.instr b1 b2, hrest ▸ hdec, hlen⟩

/-- Settles O24, form by form. -/
theorem costFollowsBusAccesses : Obligations.CostFollowsBusAccesses :=
  fun i s => i.form.cost_eq s

/-- Settles O58: each word but the last is an instruction's encoding, and the last has no entry. -/
theorem sampleWordsDecode : Obligations.SampleWordsDecode :=
  ⟨decode_encode .nop [], decode_encode .ld_b_c [], decode_encode (.ld_a_d8 0x42) [],
    decode_encode (.ld_atA16_a 0xABCD) [], decode_encode (.ld_bc_d16 0x1234) [], decode_encode .push_bc [],
    decode_encode .pop_af [], decode_encode .add_a_b [], decode_encode (.sbc_a_d8 0x3A) [], decode_encode .dec_atHL [],
    decode_of_dispatchEntry_none [] rfl⟩

end Sys2Proof.Proofs
end

section
/-! SUPPORT. The laws that the proofs of the statements of 40_execution_step.md rest on: the step from a halted state and
from one with an instruction's bytes at pc, charges that add up, and a run over zero memory. -/

namespace Sys2Proof.Machine

/-! ### The halted state (R74) -/

theorem step_of_halted {s : State} (h : s.halted = true) : step s = .next s := by rw [step, if_pos h]

theorem stepAccesses_of_halted {s : State} (h : s.halted = true) : stepAccesses s = [] := by
  rw [stepAccesses, if_pos h]

theorem loadImage_halted (bytes : List Byte) (s : State) : (loadImage bytes s).2.halted = s.halted := by
  obtain ⟨m, e, -⟩ := loadImage_eq bytes s
  rw [e]

/-! ### The step with an instruction's bytes at pc (R70, R73) -/

theorem step_of_bytesAt {s : State} {i : Instr} (hrun : s.halted = false) (h : s.bytesAt s.pc i.length = encode i) :
    step s = .next ((effect i.form (s.setPc (s.pc + BitVec.ofNat 16 i.length))).charge i.cost) := by
  simp only [step, hrun, fetchInstr_of_bytesAt h, exec_eq_effect, chargeAfter,
    Bool.false_eq_true, if_false]

/-- No instruction touches the counter or its width, so the charge is added to what the counter held before (R72). -/
theorem effect_charge (f : Form) (s : State) (n : Nat) :
    (effect f s).charge n = { effect f s with cycles := addCycles s.cycw s.cycles n } :=
  congrArg (fun k => { effect f s with cycles := k }) (by rw [effect_cycw, effect_cycles])

theorem State.take_bytesAt (s : State) (addr : Word) {n m : Nat} (h : n ≤ m) :
    (s.bytesAt addr m).take n = s.bytesAt addr n := by
  induction n generalizing addr m with
  | zero => rfl
  | succ n ih =>
    cases m with
    | zero => exact absurd h (Nat.not_succ_le_zero n)
    | succ m => exact congrArg (s.memRead addr :: ·) (ih (addr + 1) (Nat.le_of_succ_le_succ h))

/-- What decodes from the three bytes at an address is an instruction whose bytes stand there. -/
theorem bytesAt_of_decode {s : State} {addr : Word} {i : Instr} {rest : List Byte}
    (h : decode (s.bytesAt addr 3) = .ok (i, rest)) : s.bytesAt addr i.length = encode i := by
  rw [← State.take_bytesAt s addr (length_le_three i), eq_encode_append_of_decode h, ← length_encode,
    List.take_left]

/-! ### Charges that add up (R180) -/

/-- Saturation does not depend on how a charge is cut into parts. -/
theorem addCycles_addCycles (cycw c m n : Nat) :
    addCycles cycw (addCycles cycw c m) n = addCycles cycw c (m + n) := by
  simp only [addCycles]
  omega

theorem State.charge_charge (s : State) (m n : Nat) : (s.charge m).charge n = s.charge (m + n) :=
  congrArg (fun k => { s with cycles := k }) (addCycles_addCycles s.cycw s.cycles m n)

theorem State.charge_zero {s : State} (h : s.cycles ≤ 2 ^ s.cycw - 1) : s.charge 0 = s :=
  congrArg (fun k => { s with cycles := k }) (Nat.min_eq_left h)

/-! ### `NOP`s (R75, R200) -/

theorem step_of_memRead_zero {s : State} (hrun : s.halted = false) (h : s.memRead s.pc = 0x00) :
    step s = .next ((s.setPc (s.pc + 1)).charge 4) :=
  step_of_bytesAt (i := .nop) hrun (congrArg ([·]) h)

theorem runSteps_succ_of_next {s t : State} (n : Nat) (h : step s = .next t) :
    runSteps (n + 1) s = runSteps n t := by rw [runSteps, h]

/-- Over zero memory every step is a `NOP`, which leaves memory zero and the core running. -/
theorem runSteps_of_zero_memory {s : State} (n : Nat) (hmem : ∀ addr : Word, s.memRead addr = 0x00)
    (hrun : s.halted = false) (hcyc : s.cycles ≤ 2 ^ s.cycw - 1) :
    runSteps n s = .next ((s.setPc (s.pc + BitVec.ofNat 16 n)).charge (4 * n)) := by
  induction n generalizing s with
  | zero =>
    rw [show s.pc + BitVec.ofNat 16 0 = s.pc from BitVec.add_zero s.pc]
    exact congrArg Host.Outcome.next (State.charge_zero hcyc).symm
  | succ n ih =>
    have hstep := step_of_memRead_zero hrun (hmem s.pc)
    calc runSteps (n + 1) s
      _ = runSteps n ((s.setPc (s.pc + 1)).charge 4) := runSteps_succ_of_next n hstep
      _ = .next (((s.setPc (s.pc + 1 + BitVec.ofNat 16 n)).charge 4).charge (4 * n)) :=
        ih (s := (s.setPc (s.pc + 1)).charge 4) hmem hrun (addCycles_le _ _ _)
      _ = .next ((s.setPc (s.pc + BitVec.ofNat 16 (n + 1))).charge (4 * (n + 1))) := by
        rw [add_one_add_ofNat, State.charge_charge, Nat.mul_succ, Nat.add_comm 4]

end Sys2Proof.Machine
end

section
/-! The statements of 40_execution_step.md, settled. -/

namespace Sys2Proof.Proofs

open Sys2Proof.Machine

/-- Settles O11: neither the step nor its list of accesses looks past the flag, and nothing but reset writes it. -/
theorem haltedStateIsTerminal : Obligations.HaltedStateIsTerminal :=
  ⟨fun _ h => ⟨step_of_halted h, stepAccesses_of_halted h⟩, fun s bytes => ⟨loadImage_halted bytes s, rfl⟩,
    fun _ _ => step_halted⟩

/-- Settles O16, by the effect of the instruction's form. -/
theorem handlersNeverFail : Obligations.HandlersNeverFail :=
  fun i s => ⟨effect i.form s, exec_eq_effect i s, effect_ime _ s, effect_halted _ s, effect_cycles _ s, effect_pc _ s⟩

/-- Settles O26, by induction on the number of steps. -/
theorem zeroMemoryRunsForever : Obligations.ZeroMemoryRunsForever := by
  intro n s hmem hrun hcyc
  have h := runSteps_of_zero_memory n hmem hrun hcyc
  exact ⟨⟨_, h⟩, h⟩

/-- Settles O14: what decodes at pc is the instruction fetched, and its effect does not touch the counter it is charged
to. -/
theorem stepRunsDecodedInstruction : Obligations.StepRunsDecodedInstruction := by
  refine ⟨fun _ => step_of_halted, fun s hrun hop => (unmappedOpcodeRaises s hrun hop).1, fun s i rest hrun hdec => ?_⟩
  refine ⟨_, exec_eq_effect i _, ?_⟩
  rw [step_of_bytesAt hrun (bytesAt_of_decode hdec), effect_charge]
  rfl

/-- Settles O25: the step with the byte of `NOP` at pc is `NOP`'s, whose effect is none. -/
theorem nopHasNoEffect : Obligations.NopHasNoEffect :=
  ⟨rfl, rfl, exec_eq_effect .nop, fun _ => step_of_memRead_zero⟩

end Sys2Proof.Proofs
end

section
/-! SUPPORT. The laws that the proofs of the statements of 41_load_store_8bit.md rest on: the opcode byte, and with it
the encoding, the cost and the effect of an instruction, by its form; and the 8-bit loads as one operation. -/

namespace Sys2Proof

/-! ### The opcode byte by the form (R51 to R55) -/

/-- The opcode byte of each form: its fixed bits and the codes of its operands. -/
def Form.opcode : Form → Byte
  | .nop => 0x00
  | .ldRegReg r r2 => 0b01#2 ++ r.code ++ r2.code
  | .ldRegHL r => 0b01#2 ++ r.code ++ 0b110#3
  | .ldHLReg r => 0b01110#5 ++ r.code
  | .ldRegImm r _ => 0b00#2 ++ r.code ++ 0b110#3
  | .ldHLImm _ => 0x36
  | .ldABC => 0x0A
  | .ldADE => 0x1A
  | .ldBCA => 0x02
  | .ldDEA => 0x12
  | .ldhALoad _ => 0xF0
  | .ldhAStore _ => 0xE0
  | .ldAAbs _ => 0xFA
  | .ldAbsA _ => 0xEA
  | .ldPairImm rr _ => 0b00#2 ++ rr.code ++ 0b0001#4
  | .ldSPImm _ => 0x31
  | .ldAbsSP _ => 0x08
  | .push rr => 0b11#2 ++ rr.code ++ 0b0101#4
  | .pushAF => 0xF5
  | .pop rr => 0b11#2 ++ rr.code ++ 0b0001#4
  | .popAF => 0xF1
  | .ldSPHL => 0xF9
  | .ldHLSP _ => 0xF8
  | .incReg r => 0b00#2 ++ r.code ++ 0b100#3
  | .incHL => 0x34
  | .decReg r => 0b00#2 ++ r.code ++ 0b101#3
  | .decHL => 0x35
  | .daa => 0x27
  | .scf => 0x37
  | .cpl => 0x2F
  | .ccf => 0x3F
  | .aluReg op r => 0b10#2 ++ op.code ++ r.code
  | .aluHL op => 0b10#2 ++ op.code ++ 0b110#3
  | .aluImm op _ => 0b11#2 ++ op.code ++ 0b110#3

theorem opcode_form (i : Instr) : i.form.opcode = i.opcode := by
  cases i <;> rfl

end Sys2Proof

namespace Sys2Proof.Machine

/-- The form tells everything about an instruction: its bytes, its cost, and what it does to every state. -/
theorem instr_of_form {i : Instr} {f : Form} (h : i.form = f) :
    encode i = f.opcode :: f.operandBytes ∧ i.cost = f.cost ∧ ∀ s : State, exec i s = .next (effect f s) := by
  subst h
  exact ⟨congrArg (· :: i.form.operandBytes) (opcode_form i).symm, rfl, exec_eq_effect i⟩

/-! ### The 8-bit loads as one operation (R93) -/

/-- Each 8-bit load copies a byte to a place other than F, and stores at the place's address if it has one. -/
theorem effect_eq_load8 {f : Form} (s : State) (h : Spec.isByteLoad f = true) :
    ∃ (p : Loc) (x : Src), p ≠ .reg .f ∧ effect f s = load8 p x s ∧
      storedAddrs (dataAccesses f s) = (p.addr s).toList := by
  cases f with
  | ldRegReg r _ | ldRegHL r | ldRegImm r _ =>
    exact ⟨.reg r.reg, _, Loc.reg_ne_reg (R8.reg_ne_f r).symm, rfl, rfl⟩
  | ldABC | ldADE | ldhALoad _ | ldAAbs _ => exact ⟨.reg .a, _, nofun, rfl, rfl⟩
  | ldHLReg _ | ldHLImm _ => exact ⟨.atPair .hl, _, nofun, rfl, rfl⟩
  | ldBCA => exact ⟨.atPair .bc, _, nofun, rfl, rfl⟩
  | ldDEA => exact ⟨.atPair .de, _, nofun, rfl, rfl⟩
  | ldhAStore a8 => exact ⟨.zeroPage a8, _, nofun, rfl, rfl⟩
  | ldAbsA a16 => exact ⟨.absolute a16, _, nofun, rfl, rfl⟩
  | _ => cases h

/-- A load changes at most the register, or the memory byte, that is its place. -/
theorem load8_changes_one (p : Loc) (x : Src) (s : State) :
    (∃ r, p = .reg r ∧ (∀ other, other ≠ r → (load8 p x s).reg other = s.reg other) ∧
      (load8 p x s).mem = s.mem) ∨
    (∃ addr, p.addr s = some addr ∧ (∀ r, (load8 p x s).reg r = s.reg r) ∧
      ∀ other, other ≠ addr → (load8 p x s).memRead other = s.memRead other) := by
  obtain ⟨r, hp, -, e⟩ | ⟨addr, hp, e⟩ := Loc.write_cases p (x.read s) s <;> rw [load8, e]
  · exact .inl ⟨r, hp, fun _ => State.setReg_reg_of_ne s _, State.setReg_mem s r _⟩
  · exact .inr ⟨addr, hp, State.memWrite_reg s addr _, fun _ => State.memRead_memWrite_of_ne s _⟩

end Sys2Proof.Machine
end

section
/-! The statements of 41_load_store_8bit.md, settled. -/

namespace Sys2Proof.Proofs

open Sys2Proof.Machine

/-- Settles O36: each of the instructions is a load to one place, which is not F. -/
theorem byteLoadsChangeOneByte : Obligations.ByteLoadsChangeOneByte := by
  intro i s t hload e
  obtain ⟨p, x, hp, he, hst⟩ := effect_eq_load8 s hload
  obtain rfl : t = load8 p x s := (exec_next_iff.mp e).trans he
  refine ⟨load8_reg_of_ne x s hp, load8_sp p x s, load8_ime p x s, load8_halted p x s, ?_⟩
  obtain ⟨r, rfl, hframe⟩ | ⟨addr, haddr, hframe⟩ := load8_changes_one p x s
  · exact .inl ⟨r, fun hr => hp (congrArg Loc.reg hr), hframe⟩
  · exact .inr ⟨addr, hst.trans (congrArg Option.toList haddr), hframe⟩

/-- Settles O27, by the instruction's form. -/
theorem loadRegFromReg : Obligations.LoadRegFromReg :=
  fun _ _ _ => instr_of_form

/-- Settles O28: the address is read off H and L before `r` is written. -/
theorem loadRegFromHL : Obligations.LoadRegFromHL := by
  intro i r hf
  obtain ⟨henc, hcost, hexec⟩ := instr_of_form hf
  exact ⟨henc, hcost, fun s => pair_hl_eq s ▸ hexec s⟩

/-- Settles O29, by the instruction's form, whose place is the byte at HL. -/
theorem storeRegAtHL : Obligations.StoreRegAtHL := by
  intro i r hf
  obtain ⟨henc, hcost, hexec⟩ := instr_of_form hf
  exact ⟨henc, hcost, fun s => pair_hl_eq s ▸ hexec s⟩

/-- Settles O30, by the instruction's form. -/
theorem loadRegImmediate : Obligations.LoadRegImmediate :=
  fun _ _ _ => instr_of_form

/-- Settles O31, by the instruction's form, whose place is the byte at HL. -/
theorem storeImmediateAtHL : Obligations.StoreImmediateAtHL := by
  intro d8
  obtain ⟨henc, hcost, hexec⟩ := instr_of_form (i := .ld_atHL_d8 d8) rfl
  exact ⟨henc, hcost, fun s => pair_hl_eq s ▸ hexec s⟩

/-- Settles O32: the pair's two bytes are the address that the statement writes as a sum. -/
theorem loadAFromBCOrDE : Obligations.LoadAFromBCOrDE := by
  refine ⟨rfl, rfl, rfl, rfl, fun s => ?_⟩
  rw [← wordOf_eq_ofNat, ← wordOf_eq_ofNat]
  exact ⟨exec_eq_effect .ld_a_atBC s, exec_eq_effect .ld_a_atDE s⟩

/-- Settles O33: the pair's two bytes are the address that the statement writes as a sum. -/
theorem storeAAtBCOrDE : Obligations.StoreAAtBCOrDE := by
  refine ⟨rfl, rfl, rfl, rfl, fun s => ?_⟩
  rw [← wordOf_eq_ofNat, ← wordOf_eq_ofNat]
  exact ⟨exec_eq_effect .ld_atBC_a s, exec_eq_effect .ld_atDE_a s⟩

/-- Settles O35: the address is the word of the two bytes, so they are its low and its high byte in the stream. -/
theorem absoluteLoadStore : Obligations.AbsoluteLoadStore := by
  intro lo hi a16
  have hword : a16 = wordOf hi lo := (wordOf_eq_ofNat hi lo).symm
  have hbytes (op : Byte) : [op, loByte a16, hiByte a16] = [op, lo, hi] := by
    rw [hword, loByte_wordOf, hiByte_wordOf]
  exact ⟨hbytes 0xFA, rfl, hbytes 0xEA, rfl, fun s =>
    ⟨exec_eq_effect (.ld_a_atA16 a16) s, exec_eq_effect (.ld_atA16_a a16) s⟩⟩

end Sys2Proof.Proofs
end

section
/-! SUPPORT. The laws that the proofs of the statements of 42_load_store_16bit_stack.md rest on: the two bytes of a word
immediate, the signed displacement, and what `PUSH` leaves in memory and `POP` in the registers. -/

namespace Sys2Proof.Machine

/-! ### Word immediates and words in memory (R100 to R102) -/

/-- The word of two bytes stands in the stream as these bytes, the low one first. -/
theorem streamBytes_ofNat (op lo hi : Byte) :
    [op, loByte (BitVec.ofNat 16 (hi.toNat * 256 + lo.toNat)), hiByte (BitVec.ofNat 16 (hi.toNat * 256 + lo.toNat))] =
      [op, lo, hi] := by
  rw [← wordOf_eq_ofNat, loByte_wordOf, hiByte_wordOf]

theorem State.setPair_ofNat (s : State) (p : Pair) (lo hi : Byte) :
    s.setPair p (BitVec.ofNat 16 (hi.toNat * 256 + lo.toNat)) = (s.setReg p.lo lo).setReg p.hi hi := by
  rw [← wordOf_eq_ofNat, setPair_eq, loByte_wordOf, hiByte_wordOf]

theorem State.memWrite16_eq (s : State) (addr v : Word) :
    s.memWrite16 addr v =
      (s.memWrite addr (BitVec.ofNat 8 v.toNat)).memWrite (addr + 1) (BitVec.ofNat 8 (v.toNat / 256)) := by
  rw [State.memWrite16, loByte_eq_ofNat, hiByte_eq_ofNat]

/-! ### The signed displacement (R8, R108) -/

theorem toNat_sext16 (v : Byte) :
    (sext16 v).toNat = if v.toNat < 128 then v.toNat else v.toNat + 0xFF00 := by
  have := v.isLt
  rw [sext16, BitVec.toNat_signExtend, BitVec.toNat_setWidth, BitVec.msb_eq_decide]
  simp only [decide_eq_true_eq]
  split <;> split <;> omega

theorem toNat_spPlus (s : State) (d : Byte) :
    (spPlus s d).toNat = (s.sp.toNat + (if d.toNat < 128 then d.toNat else d.toNat + 0xFF00)) % 65536 := by
  rw [spPlus, BitVec.toNat_add, toNat_sext16]

theorem State.setPair_hl_eq (s : State) (v : Word) :
    s.setPair .hl v = { s with h := BitVec.ofNat 8 (v.toNat / 256), l := BitVec.ofNat 8 v.toNat } := by
  rw [setPair_eq, hiByte_eq_ofNat, loByte_eq_ofNat]; rfl

/-! ### The stack in memory and in the registers (R103 to R106) -/

theorem push_memRead_hi (p : Pair) (s : State) : (push p s).memRead (s.sp - 1) = s.reg p.hi := by
  have hne : s.sp - 1 ≠ s.sp - 2 := by bv_omega
  rw [push_eq, State.setSp_memRead, State.memRead_memWrite_of_ne _ _ hne, State.memRead_memWrite_same]

theorem push_memRead_lo (p : Pair) (s : State) : (push p s).memRead (s.sp - 2) = s.reg p.lo := by
  rw [push_eq, State.setSp_memRead, State.memRead_memWrite_same]

theorem pop_memRead (p : Pair) (s : State) (addr : Word) : (pop p s).memRead addr = s.memRead addr :=
  State.memRead_congr (pop_mem p s) addr

theorem Pair.lo_ne_hi (p : Pair) : p.lo ≠ p.hi := by cases p <;> decide

theorem Pair.hi_ne_f (p : Pair) : p.hi ≠ .f := by cases p <;> decide

theorem Pair.lo_eq_f_iff (p : Pair) : p.lo = .f ↔ p = .af := by cases p <;> decide

theorem pop_reg_hi (p : Pair) (s : State) : (pop p s).reg p.hi = s.memRead (s.sp + 1) := by
  rw [pop_eq, State.setSp_reg, State.setReg_reg, if_pos rfl, if_neg (Pair.hi_ne_f p)]

/-- The low byte popped is the one at SP, but for what a write to F drops. -/
theorem pop_reg_lo (p : Pair) (s : State) :
    (pop p s).reg p.lo = if p = .af then s.memRead s.sp &&& 0xF0 else s.memRead s.sp := by
  rw [pop_eq, State.setSp_reg, State.setReg_reg_of_ne _ _ (Pair.lo_ne_hi p), State.setReg_reg, if_pos rfl]
  simp only [Pair.lo_eq_f_iff p]

/-- The mask of a write to F keeps a byte whose low nibble is zero. -/
theorem and_F0_of_low_nibble {v : Byte} (h : v &&& 0x0F = 0) : v &&& 0xF0 = v := by
  rw [← flagsByte_of_low_nibble h, flagsByte_mask]

/-! ### A pop after a push (R109) -/

section
variable (p q : Pair) (s : State)

theorem pop_push_sp : (pop q (push p s)).sp = s.sp := by
  rw [pop_sp, push_sp, BitVec.sub_add_cancel]

theorem pop_push_reg_hi : (pop q (push p s)).reg q.hi = s.reg p.hi := by
  have hsp : s.sp - 2 + 1 = s.sp - 1 := by bv_omega
  rw [pop_reg_hi, push_sp, hsp, push_memRead_hi]

theorem pop_push_reg_lo :
    (pop q (push p s)).reg q.lo = if q = .af then s.reg p.lo &&& 0xF0 else s.reg p.lo := by
  rw [pop_reg_lo, push_sp, push_memRead_lo]

end

/-- Popping the pair just pushed restores every register: the pair's own come back from memory, and no other is
written. -/
theorem pop_push_reg_same {p : Pair} {s : State} (h : p = .af → s.f &&& 0x0F = 0) (r : Reg) :
    (pop p (push p s)).reg r = s.reg r := by
  by_cases hhi : r = p.hi
  · rw [hhi, pop_push_reg_hi]
  by_cases hlo : r = p.lo
  · rw [hlo, pop_push_reg_lo]
    split
    · next hp => subst hp; exact and_F0_of_low_nibble (h rfl)
    · rfl
  · rw [pop_reg_of_ne _ hhi hlo, push_reg]

/-! ### The stack instructions as one operation on a pair (R103 to R106) -/

theorem exec_eq_push {i : Instr} {p : Pair} (s : State)
    (h : i.form = .pushAF ∧ p = .af ∨ ∃ rr : RR, i.form = .push rr ∧ p = rr.pair) :
    exec i s = .next (push p s) := by
  obtain ⟨hf, rfl⟩ | ⟨rr, hf, rfl⟩ := h <;> exact exec_next_iff.mpr (congrArg (effect · s) hf).symm

theorem exec_eq_pop {i : Instr} {p : Pair} (s : State)
    (h : i.form = .popAF ∧ p = .af ∨ ∃ rr : RR, i.form = .pop rr ∧ p = rr.pair) :
    exec i s = .next (pop p s) := by
  obtain ⟨hf, rfl⟩ | ⟨rr, hf, rfl⟩ := h <;> exact exec_next_iff.mpr (congrArg (effect · s) hf).symm

end Sys2Proof.Machine
end

section
/-! The statements of 42_load_store_16bit_stack.md, settled. -/

namespace Sys2Proof.Proofs

open Sys2Proof.Machine

/-- Settles O44: the pop reads back the two bytes the push stored, which stand at different addresses, and writes no
memory. -/
theorem pushThenPopCopiesPair : Obligations.PushThenPopCopiesPair := by
  intro i j p q s hi hj
  refine ⟨push p s, pop q (push p s), exec_eq_push s hi, exec_eq_pop _ hj, pop_push_sp p q s, pop_push_reg_hi p q s,
    pop_push_reg_lo p q s, ?_, ?_, ?_⟩
  · rw [pop_memRead, push_memRead_hi]
  · rw [pop_memRead, push_memRead_lo]
  · rintro rfl hlow
    exact pop_push_reg_same hlow

/-- Settles O37: the word's low and high bytes are the two bytes of the stream. -/
theorem loadPairImmediate : Obligations.LoadPairImmediate := by
  intro i rr lo hi hf
  obtain ⟨henc, hcost, hexec⟩ := instr_of_form hf
  exact ⟨henc.trans (streamBytes_ofNat _ lo hi), hcost, fun s => State.setPair_ofNat s rr.pair lo hi ▸ hexec s⟩

/-- Settles O38: the word's low and high bytes are the two bytes of the stream. -/
theorem loadSpImmediate : Obligations.LoadSpImmediate :=
  fun lo hi => ⟨streamBytes_ofNat 0x31 lo hi, rfl, exec_eq_effect (.ld_sp_d16 _)⟩

/-- Settles O39: the store is a word write, which is two byte writes. -/
theorem storeSpAbsolute : Obligations.StoreSpAbsolute :=
  fun lo hi => ⟨streamBytes_ofNat 0x08 lo hi, rfl, fun s =>
    State.memWrite16_eq s _ s.sp ▸ exec_eq_effect (.ld_atA16_sp _) s⟩

/-- Settles O40: the four steps of a push are two stores below SP and one change of SP, for `AF` as for the others. -/
theorem pushStoresPair : Obligations.PushStoresPair := by
  refine ⟨fun i rr hf => ?_, rfl, rfl, fun s => exec_next_iff.mpr (push_eq .af s).symm⟩
  obtain ⟨henc, hcost, hexec⟩ := instr_of_form hf
  exact ⟨henc, hcost, fun s => (hexec s).trans (congrArg Host.Outcome.next (push_eq rr.pair s))⟩

/-- Settles O41: the four steps of a pop are two register writes and one change of SP, and the write to F masks. -/
theorem popLoadsPair : Obligations.PopLoadsPair := by
  refine ⟨fun i rr hf => ?_, rfl, rfl, fun s => exec_next_iff.mpr (pop_eq .af s).symm⟩
  obtain ⟨henc, hcost, hexec⟩ := instr_of_form hf
  exact ⟨henc, hcost, fun s => (hexec s).trans (congrArg Host.Outcome.next (pop_eq rr.pair s))⟩

/-- Settles O42: the pair HL is the address that the statement writes as a sum. -/
theorem loadSpFromHL : Obligations.LoadSpFromHL :=
  ⟨rfl, rfl, fun s => pair_hl_eq s ▸ exec_eq_effect .ld_sp_hl s⟩

/-- Settles O43: the sign-extended displacement, in natural numbers, is the one the statement adds. -/
theorem loadHLFromSpPlus : Obligations.LoadHLFromSpPlus := by
  refine fun s8 => ⟨rfl, rfl, fun s => ?_⟩
  rw [exec_eq_effect]
  calc Host.Outcome.next (s.setPair .hl (spPlus s s8))
    _ = .next { s with
          h := BitVec.ofNat 8 ((spPlus s s8).toNat / 256)
          l := BitVec.ofNat 8 (spPlus s s8).toNat } := by rw [State.setPair_hl_eq]
    _ = _ := by rw [toNat_spPlus]

end Sys2Proof.Proofs
end

section
/-! SUPPORT. The laws that the proofs of the statements of 43_alu_8bit.md rest on: the flags an operation is handed back,
the results of each operation in the spec's own formulas, and the flags each form keeps. -/

namespace Sys2Proof.Machine

/-! ### One flag as a bit of F (R8, R16) -/

theorem flagBit_eq_toNat (f : Byte) (k : Nat) : Spec.flagBit f k = (f.getLsbD k).toNat :=
  (Nat.toNat_testBit f.toNat k).symm

theorem decide_toNat_eq_one (b : Bool) : decide (b.toNat = 1) = b := by cases b <;> rfl

theorem decide_flagBit_eq_one (f : Byte) (k : Nat) : decide (Spec.flagBit f k = 1) = f.getLsbD k := by
  rw [flagBit_eq_toNat, decide_toNat_eq_one]

theorem decide_flagBit_eq_zero (f : Byte) (k : Nat) : decide (Spec.flagBit f k = 0) = !f.getLsbD k := by
  rw [flagBit_eq_toNat]
  cases f.getLsbD k <;> rfl

/-- Written flags are the spec's sum of bit values, and nothing else changes. -/
theorem setFlagsOf_eq_flags (s : State) (x : AluResult) :
    s.setFlagsOf x = { s with f := Spec.flags x.z x.n x.hf x.cy } := State.setFlags_eq s _ _ _ _

theorem flagN_setFlagsOf (s : State) (x : AluResult) : (s.setFlagsOf x).flagN = x.n := by
  rw [State.flagN, setFlagsOf_f]
  cases x.z <;> cases x.n <;> cases x.hf <;> cases x.cy <;> rfl

/-! ### `INC` and `DEC` (R124 to R128) -/

/-- The increment of a place, with the result in natural numbers. -/
theorem incLoc_eq_incFlags (p : Loc) (s : State) :
    incLoc p s =
      { p.write (BitVec.ofNat 8 (((p.read s).toNat + 1) % 256)) s with
        f := Spec.incFlags s (((p.read s).toNat + 1) % 256) } := by
  rw [incLoc_eq, setFlagsOf_eq_flags, inc8_eq, Spec.incFlags, decide_flagBit_eq_one, State.flagC]

/-- The decrement of a place, with the result in natural numbers. -/
theorem decLoc_eq_decFlags (p : Loc) (s : State) :
    decLoc p s =
      { p.write (BitVec.ofNat 8 (((p.read s).toNat + 255) % 256)) s with
        f := Spec.decFlags s (((p.read s).toNat + 255) % 256) } := by
  rw [decLoc_eq, setFlagsOf_eq_flags, dec8_eq, Spec.decFlags, decide_flagBit_eq_one, State.flagC]

theorem incLoc_flagZ (p : Loc) (s : State) :
    (incLoc p s).flagZ = true ↔ ((p.read s).toNat + 1) % 256 = 0 := by
  rw [incLoc_eq, flagZ_setFlagsOf, inc8_eq, decide_eq_true_eq]

theorem decLoc_flagZ (p : Loc) (s : State) :
    (decLoc p s).flagZ = true ↔ ((p.read s).toNat + 255) % 256 = 0 := by
  rw [decLoc_eq, flagZ_setFlagsOf, dec8_eq, decide_eq_true_eq]

@[simp] theorem incLoc_flagC (p : Loc) (s : State) : (incLoc p s).flagC = s.flagC := flagC_setFlagsOf _ _

@[simp] theorem decLoc_flagC (p : Loc) (s : State) : (decLoc p s).flagC = s.flagC := flagC_setFlagsOf _ _

@[simp] theorem decLoc_flagN (p : Loc) (s : State) : (decLoc p s).flagN = true := flagN_setFlagsOf _ _

@[simp] theorem incLoc_reg_same (r : R8) (s : State) :
    (incLoc (.reg r.reg) s).reg r.reg = s.reg r.reg + 1 := by
  rw [incLoc_eq, setFlagsOf_reg_of_ne _ _ (R8.reg_ne_f r), Loc.write, State.setReg_reg, if_pos rfl,
    if_neg (R8.reg_ne_f r)]
  rfl

@[simp] theorem decLoc_reg_same (r : R8) (s : State) :
    (decLoc (.reg r.reg) s).reg r.reg = s.reg r.reg - 1 := by
  rw [decLoc_eq, setFlagsOf_reg_of_ne _ _ (R8.reg_ne_f r), Loc.write, State.setReg_reg, if_pos rfl,
    if_neg (R8.reg_ne_f r)]
  rfl

/-! ### `DAA` (R129) -/

/-- The two adjustments meet in no bit, so the bitwise OR is their sum. -/
theorem toNat_adjustment (high low : Bool) :
    ((if high then 0x60 else 0x00 : Byte) ||| (if low then 0x06 else 0x00)).toNat =
      (if high then 0x60 else 0) + (if low then 0x06 else 0) := by
  cases high <;> cases low <;> rfl

/-- The tests of the addition branch, as the model's bits. -/
theorem daa_after_add (a : Nat) (hf cy : Bool) :
    Spec.daa a cy.toNat hf.toNat 0 =
      ((a + (if cy || decide (a > 0x99) then 0x60 else 0) + (if hf || decide (a % 16 > 9) then 0x06 else 0)) % 256,
        (cy || decide (a > 0x99)).toNat) := by
  cases cy <;> cases hf <;> simp [Spec.daa, Bool.toNat, Bool.cond_decide]

/-- The subtraction branch tests the flags alone. -/
theorem daa_after_sub (a : Nat) (hf cy : Bool) :
    Spec.daa a cy.toNat hf.toNat 1 =
      ((a + 256 - (if cy then 0x60 else 0) - (if hf then 0x06 else 0)) % 256, cy.toNat) := by
  cases cy <;> cases hf <;> rfl

/-- R129. -/
theorem daa8_eq (a : Byte) (n hf cy : Bool) :
    daa8 a n hf cy =
      ⟨BitVec.ofNat 8 (Spec.daa a.toNat cy.toNat hf.toNat n.toNat).1,
        decide ((Spec.daa a.toNat cy.toNat hf.toNat n.toNat).1 = 0), n, false,
        decide ((Spec.daa a.toNat cy.toNat hf.toNat n.toNat).2 = 1)⟩ := by
  have hres : (daa8 a n hf cy).res.toNat = (Spec.daa a.toNat cy.toNat hf.toNat n.toNat).1 := by
    cases n with
    | false =>
      rw [Bool.toNat_false, daa_after_add, daa8]
      simp only [Bool.not_false, Bool.true_and, Bool.false_eq_true, if_false, BitVec.toNat_add, toNat_adjustment,
        Nat.add_assoc]
    | true =>
      rw [Bool.toNat_true, daa_after_sub, daa8]
      simp only [Bool.not_true, Bool.false_and, Bool.or_false, if_true, BitVec.toNat_sub, toNat_adjustment]
      split <;> split <;> omega
  have hcy : (daa8 a n hf cy).cy = decide ((Spec.daa a.toNat cy.toNat hf.toNat n.toNat).2 = 1) := by
    cases n with
    | false => rw [Bool.toNat_false, daa_after_add, decide_toNat_eq_one, daa8]; simp
    | true => rw [Bool.toNat_true, daa_after_sub, decide_toNat_eq_one, daa8]; simp
  rw [← hres, ← hcy, BitVec.ofNat_toNat, ← beq_zero_eq_decide]
  rfl

/-! ### The carry and the complement (R130 to R132) -/

theorem complement_eq_ofNat (v : Byte) : v ^^^ 0xFF = BitVec.ofNat 8 (255 - v.toNat) := by
  apply BitVec.eq_of_toNat_eq
  rw [show (0xFF : Byte) = BitVec.allOnes 8 from rfl, BitVec.xor_allOnes, BitVec.toNat_not, BitVec.toNat_ofNat]
  omega

/-! ### The accumulator operations (R121 to R123, R133 to R156) -/

/-- An operation that writes A leaves its result there and its flags in F. -/
theorem aluA_of_result {op : AluOp} (x : Src) (s : State) {r : AluResult} (hw : aluWritesA op = true)
    (hr : aluResult op s.a (x.read s) s.flagC = r) :
    aluA op x s = { s with a := r.res, f := Spec.flags r.z r.n r.hf r.cy } := by
  rw [aluA_of_writes x s hw, hr, flags_eq_flagsByte]

theorem aluA_add (x : Src) (s : State) : aluA .add x s = Spec.added s (x.read s) 0 :=
  aluA_of_result (op := .add) x s rfl (add8_eq _ _ _)

theorem aluA_adc (x : Src) (s : State) : aluA .adc x s = Spec.added s (x.read s) (Spec.flagBit s.f 4) := by
  rw [flagBit_eq_toNat]
  exact aluA_of_result (op := .adc) x s rfl (add8_eq _ _ _)

theorem aluA_sub (x : Src) (s : State) : aluA .sub x s = Spec.subtracted s (x.read s) 0 :=
  aluA_of_result (op := .sub) x s rfl (sub8_eq _ _ _)

theorem aluA_sbc (x : Src) (s : State) : aluA .sbc x s = Spec.subtracted s (x.read s) (Spec.flagBit s.f 4) := by
  rw [flagBit_eq_toNat]
  exact aluA_of_result (op := .sbc) x s rfl (sub8_eq _ _ _)

theorem aluA_cp_eq_subFlags (x : Src) (s : State) :
    aluA .cp x s = { s with f := Spec.subFlags s.a (x.read s) 0 } := by
  rw [aluA_cp, sub8_eq, Spec.subFlags, flags_eq_flagsByte]
  rfl

/-- `AND`, `XOR` and `OR`: the result given, with its Z and with Hf as the operation sets it. -/
theorem aluA_of_logic8 {op : AluOp} (x : Src) (s : State) {res : Byte} {hf : Bool} (hw : aluWritesA op = true)
    (hr : aluResult op s.a (x.read s) s.flagC = logic8 res hf) : aluA op x s = Spec.logic s res hf := by
  rw [aluA_of_result x s hw hr, Spec.logic, ← beq_zero_eq_decide]
  rfl

theorem aluA_and (x : Src) (s : State) : aluA .and x s = Spec.logic s (s.a &&& x.read s) true :=
  aluA_of_logic8 x s rfl rfl

theorem aluA_xor (x : Src) (s : State) : aluA .xor x s = Spec.logic s (s.a ^^^ x.read s) false :=
  aluA_of_logic8 x s rfl rfl

theorem aluA_or (x : Src) (s : State) : aluA .or x s = Spec.logic s (s.a ||| x.read s) false :=
  aluA_of_logic8 x s rfl rfl

/-- An accumulator operation in its three variants, by what it makes of the operand, wherever that comes from. -/
theorem alu_variants {op : AluOp} {post : State → Byte → State} (h : ∀ x s, aluA op x s = post s (x.read s)) :
    (∀ (i : Instr) (r : R8), i.form = .aluReg op r →
      encode i = [0b10#2 ++ op.code ++ r.code] ∧ i.cost = 4 ∧
      ∀ s : State, exec i s = .next (post s (s.reg r.reg))) ∧
    (∀ i : Instr, i.form = .aluHL op →
      encode i = [0b10#2 ++ op.code ++ 0b110#3] ∧ i.cost = 8 ∧
      ∀ s : State, exec i s = .next (post s (s.memRead (Spec.hl s)))) ∧
    (∀ (i : Instr) (d8 : Byte), i.form = .aluImm op d8 →
      encode i = [0b11#2 ++ op.code ++ 0b110#3, d8] ∧ i.cost = 8 ∧
      ∀ s : State, exec i s = .next (post s d8)) := by
  refine ⟨fun i r hf => ?_, fun i hf => ?_, fun i d8 hf => ?_⟩ <;>
    obtain ⟨henc, hcost, hexec⟩ := instr_of_form hf
  · exact ⟨henc, hcost, fun s => (hexec s).trans (congrArg Host.Outcome.next (h _ s))⟩
  · exact ⟨henc, hcost, fun s => pair_hl_eq s ▸ (hexec s).trans (congrArg Host.Outcome.next (h _ s))⟩
  · exact ⟨henc, hcost, fun s => (hexec s).trans (congrArg Host.Outcome.next (h _ s))⟩

/-- Adding and then subtracting the same operand with the same carry-in (R121, R122). -/
theorem sub8_add8_res (a v : Byte) (c : Bool) : (sub8 (add8 a v c).res v c).res = a := by
  rw [sub8_eq, add8_eq]
  apply BitVec.eq_of_toNat_eq
  have := a.isLt
  have := v.isLt
  have : c.toNat ≤ 1 := Bool.toNat_le c
  simp only [BitVec.toNat_ofNat]
  omega

/-- `CP` is `SUB` but for the write to A (R154). -/
theorem aluA_cp_sub (x : Src) (s : State) :
    (aluA .cp x s).a = s.a ∧ (aluA .cp x s).f = (aluA .sub x s).f := by
  rw [aluA_cp_eq_subFlags, aluA_sub]
  exact ⟨rfl, rfl⟩

/-! ### The flags each form keeps (R157) -/

/-- A form that writes no flag does not have F among its registers. -/
theorem f_not_mem_writtenRegs {f : Form} (h : Spec.writtenFlags f = 0x00) : Reg.f ∉ Spec.writtenRegs f := by
  cases f with
  | incReg _ | incHL | decReg _ | decHL | daa | scf | cpl | ccf | aluReg _ _ | aluHL _ | aluImm _ _ | popAF =>
    simp [Spec.writtenFlags] at h
  | ldRegReg r _ | ldRegHL r | ldRegImm r _ => exact fun hm => R8.reg_ne_f r (List.mem_singleton.mp hm).symm
  | ldPairImm rr _ | pop rr =>
    show Reg.f ∉ [rr.pair.hi, rr.pair.lo]
    cases rr <;> decide
  | nop | ldHLReg _ | ldHLImm _ | ldABC | ldADE | ldBCA | ldDEA | ldhALoad _ | ldhAStore _ | ldAAbs _ | ldAbsA _
  | ldSPImm _ | ldAbsSP _ | push _ | pushAF | ldSPHL | ldHLSP _ => simp [Spec.writtenRegs]

theorem effect_f_of_writtenFlags_zero {f : Form} (s : State) (h : Spec.writtenFlags f = 0x00) :
    (effect f s).f = s.f :=
  effect_reg_of_not_mem s (f_not_mem_writtenRegs h)

theorem flagsByte_getLsbD (z n hf cy : Bool) :
    (flagsByte z n hf cy).getLsbD 7 = z ∧ (flagsByte z n hf cy).getLsbD 6 = n ∧
      (flagsByte z n hf cy).getLsbD 5 = hf ∧ (flagsByte z n hf cy).getLsbD 4 = cy := by
  cases z <;> cases n <;> cases hf <;> cases cy <;> decide

/-- A mask of a flag byte masks each flag. -/
theorem flagsByte_and (z n hf cy : Bool) (m : Byte) :
    flagsByte z n hf cy &&& m =
      flagsByte (z && m.getLsbD 7) (n && m.getLsbD 6) (hf && m.getLsbD 5) (cy && m.getLsbD 4) := by
  obtain ⟨hz, hn, hh, hc⟩ := flagsByte_getLsbD z n hf cy
  have hlow : flagsByte z n hf cy &&& m &&& 0x0F = 0 := by
    rw [BitVec.and_assoc, BitVec.and_comm m, ← BitVec.and_assoc, flagsByte_low_nibble]
    exact BitVec.zero_and
  rw [← flagsByte_of_low_nibble hlow]
  simp only [BitVec.getLsbD_and, hz, hn, hh, hc]

/-- A form that writes the flags of `w` leaves the rest of F: each flag outside `w` is given its old value. -/
theorem flagsByte_and_not_eq {v w : Byte} {z n hf cy : Bool} (h : v &&& 0x0F = 0)
    (hz : w.getLsbD 7 = false → z = v.getLsbD 7) (hn : w.getLsbD 6 = false → n = v.getLsbD 6)
    (hh : w.getLsbD 5 = false → hf = v.getLsbD 5) (hc : w.getLsbD 4 = false → cy = v.getLsbD 4) :
    flagsByte z n hf cy &&& ~~~w = v &&& ~~~w := by
  have keep {b x y : Bool} (hb : b = false → x = y) : (x && !b) = (y && !b) := by
    cases b with
    | false => rw [hb rfl]
    | true => rw [Bool.not_true, Bool.and_false, Bool.and_false]
  calc flagsByte z n hf cy &&& ~~~w
    _ = flagsByte (v.getLsbD 7) (v.getLsbD 6) (v.getLsbD 5) (v.getLsbD 4) &&& ~~~w := by
      rw [flagsByte_and, flagsByte_and]
      simp only [BitVec.getLsbD_not, Nat.reduceLT, decide_true, Bool.true_and, keep hz, keep hn, keep hh, keep hc]
    _ = v &&& ~~~w := by rw [flagsByte_of_low_nibble h]

/-- With F's low nibble zero, every bit of F outside the flags the form writes is as before. -/
theorem effect_f_and_not_writtenFlags {f : Form} {s : State} (h : s.f &&& 0x0F = 0) :
    (effect f s).f &&& ~~~ Spec.writtenFlags f = s.f &&& ~~~ Spec.writtenFlags f := by
  cases f with
  | incReg _ | incHL =>
    rw [effect, incLoc_eq, setFlagsOf_f]
    exact flagsByte_and_not_eq (w := 0xE0) h nofun nofun nofun fun _ => rfl
  | decReg _ | decHL =>
    rw [effect, decLoc_eq, setFlagsOf_f]
    exact flagsByte_and_not_eq (w := 0xE0) h nofun nofun nofun fun _ => rfl
  | daa =>
    rw [effect, adjustA_eq]
    exact flagsByte_and_not_eq h nofun (fun _ => rfl) nofun nofun
  | scf =>
    rw [effect, setCarry_eq]
    exact flagsByte_and_not_eq h (fun _ => rfl) nofun nofun nofun
  | ccf =>
    rw [effect, complementCarry_eq]
    exact flagsByte_and_not_eq h (fun _ => rfl) nofun nofun nofun
  | cpl =>
    rw [effect, complementA_eq]
    exact flagsByte_and_not_eq h (fun _ => rfl) nofun nofun (fun _ => rfl)
  | aluReg _ _ | aluHL _ | aluImm _ _ | popAF =>
    show _ &&& ~~~(0xF0 : Byte) = _ &&& ~~~(0xF0 : Byte)
    exact (effect_low_nibble _ h).trans h.symm
  | nop | ldRegReg _ _ | ldRegHL _ | ldHLReg _ | ldRegImm _ _ | ldHLImm _ | ldABC | ldADE | ldBCA | ldDEA
  | ldhALoad _ | ldhAStore _ | ldAAbs _ | ldAbsA _ | ldPairImm _ _ | ldSPImm _ | ldAbsSP _ | push _ | pushAF
  | pop _ | ldSPHL | ldHLSP _ => rw [effect_f_of_writtenFlags_zero s rfl]

end Sys2Proof.Machine
end

section
/-! The statements of 43_alu_8bit.md, settled. -/

namespace Sys2Proof.Proofs

open Sys2Proof.Machine

/-- Settles O21: a form without flags has no F among its registers, and the others hand each kept flag back. -/
theorem flagFrame : Obligations.FlagFrame := by
  intro i s t e
  obtain rfl := exec_next_iff.mp e
  exact ⟨effect_f_of_writtenFlags_zero s, fun h => ⟨effect_f_and_not_writtenFlags h, effect_low_nibble i.form h⟩⟩

/-- Settles O54, law by law. -/
theorem arithmeticFamilyLaws : Obligations.ArithmeticFamilyLaws := by
  refine ⟨fun i j r s t u hi hj ht hu => ?_, fun i j s t u hij ht hu => ?_, fun s => ?_, sub8_add8_res⟩
  · rw [exec_next_iff, hi] at ht
    rw [exec_next_iff, hj] at hu
    subst ht hu
    refine ⟨incLoc_flagZ _ s, decLoc_flagZ _ s, effect j.form (incLoc (.reg r.reg) s), exec_eq_effect j _, ?_⟩
    rw [hj]
    simp [effect]
  · obtain ⟨x, hx, hy⟩ : ∃ x, t = aluA .cp x s ∧ u = aluA .sub x s := by
      rw [exec_next_iff] at ht hu
      obtain ⟨r, hi, hj⟩ | ⟨hi, hj⟩ | ⟨v, hi, hj⟩ := hij <;> rw [ht, hu, hi, hj] <;> exact ⟨_, rfl, rfl⟩
    rw [hx, hy]
    exact aluA_cp_sub x s
  · calc exec .xor_a_a s
      _ = .next (Spec.logic s (s.a ^^^ s.a) false) :=
        exec_next_iff.mpr (aluA_xor (.loc (.reg .a)) s).symm
      _ = .next { s with a := 0x00, f := 0x80 } := by rw [BitVec.xor_self]; rfl

/-- Settles O45: the register and the byte at HL are two places of one increment. -/
theorem incrementResults : Obligations.IncrementResults := by
  refine ⟨fun i r hf => ?_, rfl, rfl, fun s => ?_⟩
  · obtain ⟨henc, hcost, hexec⟩ := instr_of_form hf
    exact ⟨henc, hcost, fun s => (hexec s).trans (congrArg Host.Outcome.next (incLoc_eq_incFlags (.reg r.reg) s))⟩
  · exact pair_hl_eq s ▸ exec_next_iff.mpr (incLoc_eq_incFlags (.atPair .hl) s).symm

/-- Settles O46: the register and the byte at HL are two places of one decrement. -/
theorem decrementResults : Obligations.DecrementResults := by
  refine ⟨fun i r hf => ?_, rfl, rfl, fun s => ?_⟩
  · obtain ⟨henc, hcost, hexec⟩ := instr_of_form hf
    exact ⟨henc, hcost, fun s => (hexec s).trans (congrArg Host.Outcome.next (decLoc_eq_decFlags (.reg r.reg) s))⟩
  · exact pair_hl_eq s ▸ exec_next_iff.mpr (decLoc_eq_decFlags (.atPair .hl) s).symm

/-- Settles O47: the adjustment in bits is the pseudocode's in integers, read off the same three flags. -/
theorem decimalAdjustResult : Obligations.DecimalAdjustResult := by
  refine ⟨rfl, rfl, fun s => ?_⟩
  intro r
  have hdaa : daa8 s.a s.flagN s.flagH s.flagC =
      ⟨BitVec.ofNat 8 r.1, decide (r.1 = 0), decide (Spec.flagBit s.f 6 = 1), false, decide (r.2 = 1)⟩ := by
    rw [decide_flagBit_eq_one]
    simp only [r, flagBit_eq_toNat]
    exact daa8_eq s.a s.flagN s.flagH s.flagC
  rw [exec_next_iff, flags_eq_flagsByte]
  exact (adjustA_eq s).trans (by rw [hdaa]) |>.symm

/-- Settles O48: Z is handed back, and Cy is set or read and complemented. -/
theorem carryFlagInstructions : Obligations.CarryFlagInstructions := by
  refine ⟨rfl, rfl, rfl, rfl, fun s => ?_⟩
  rw [decide_flagBit_eq_one, decide_flagBit_eq_zero, flags_eq_flagsByte, flags_eq_flagsByte]
  exact ⟨exec_next_iff.mpr (setCarry_eq s).symm, exec_next_iff.mpr (complementCarry_eq s).symm⟩

/-- Settles O49: the complement of a byte is 255 less the byte, and Z and Cy are handed back. -/
theorem complementResult : Obligations.ComplementResult := by
  refine ⟨rfl, rfl, fun s => ?_⟩
  rw [decide_flagBit_eq_one, decide_flagBit_eq_one, flags_eq_flagsByte, ← complement_eq_ofNat]
  exact exec_next_iff.mpr (complementA_eq s).symm

/-- Settles O50: one addition for the three variants, with each carry-in. -/
theorem additionResults : Obligations.AdditionResults := by
  rintro op k (⟨rfl, rfl⟩ | ⟨rfl, rfl⟩)
  · exact alu_variants (post := fun s v => Spec.added s v 0) aluA_add
  · exact alu_variants (post := fun s v => Spec.added s v (Spec.flagBit s.f 4)) aluA_adc

/-- Settles O51: one subtraction for the three variants, with each borrow-in. -/
theorem subtractionResults : Obligations.SubtractionResults := by
  rintro op k (⟨rfl, rfl⟩ | ⟨rfl, rfl⟩)
  · exact alu_variants (post := fun s v => Spec.subtracted s v 0) aluA_sub
  · exact alu_variants (post := fun s v => Spec.subtracted s v (Spec.flagBit s.f 4)) aluA_sbc

/-- Settles O52: the flags of `SUB` for the three variants; the code of `CP` is part of the bytes. -/
theorem compareResults : Obligations.CompareResults := by
  obtain ⟨hreg, hhl, himm⟩ :=
    alu_variants (post := fun s v => { s with f := Spec.subFlags s.a v 0 }) aluA_cp_eq_subFlags
  obtain ⟨henc, hcost, hexec⟩ := hhl .cp_a_atHL rfl
  exact ⟨hreg, henc, hcost, hexec, fun d8 => himm (.cp_a_d8 d8) d8 rfl⟩

/-- Settles O53: one bitwise operation for the three variants, with the Hf that each leaves. -/
theorem logicResults : Obligations.LogicResults := by
  rintro op g hf (⟨rfl, rfl, rfl⟩ | ⟨rfl, rfl, rfl⟩ | ⟨rfl, rfl, rfl⟩)
  · exact alu_variants (post := fun s v => Spec.logic s (s.a &&& v) true) aluA_and
  · exact alu_variants (post := fun s v => Spec.logic s (s.a ^^^ v) false) aluA_xor
  · exact alu_variants (post := fun s v => Spec.logic s (s.a ||| v) false) aluA_or

end Sys2Proof.Proofs
end

section
/-! The statement of 60_exceptions.md, settled. -/

namespace Sys2Proof.Proofs

open Sys2Proof.Machine

/-- Settles O13, by the three things a step can do: the byte at pc has no entry exactly when it is unmapped. -/
theorem stepEndsWithOneOfTwoResults : Obligations.StepEndsWithOneOfTwoResults := by
  intro s
  rw [← dispatchEntry_eq_none_iff]
  obtain ⟨hhalted, hs⟩ | ⟨hrun, hnone, hs⟩ | ⟨_, -, hsome, -, -, hs⟩ := step_cases s
  · exact .inl ⟨_, hs, .inl hhalted⟩
  · exact .inr ⟨_, hs, hrun, hnone⟩
  · exact .inl ⟨_, hs, .inr hsome⟩

end Sys2Proof.Proofs
end

section
/-! SUPPORT. The laws that the proofs of the statements of 70_reset_and_hazards.md rest on: loading an image, accepted
or refused, and that it commutes with the reset of the core. -/

namespace Sys2Proof.Machine

/-- An image that fits is placed whole at `IMAGE_BASE` (R192). -/
theorem loadImage_of_le {bytes : List Byte} (s : State) (h : bytes.length ≤ 65280) :
    loadImage bytes s = (.ok bytes.length, s.placeBytes 0x0100 bytes) := by
  obtain ⟨-, hl⟩ | ⟨hlong, -⟩ := loadImage_cases bytes s
  · exact hl
  · exact absurd h (Nat.not_le.mpr hlong)

/-- A longer image is refused (R192). -/
theorem loadImage_of_lt {bytes : List Byte} (s : State) (h : 65280 < bytes.length) :
    loadImage bytes s = (.error .imageTooLarge, s) := by
  obtain ⟨hfits, -⟩ | ⟨-, hl⟩ := loadImage_cases bytes s
  · exact absurd h (Nat.not_lt.mpr hfits)
  · exact hl

theorem loadImage_frame (bytes : List Byte) (s : State) : { (loadImage bytes s).2 with mem := s.mem } = s := by
  obtain ⟨m, e, -⟩ := loadImage_eq bytes s
  rw [e]

@[simp] theorem loadImage_pc (bytes : List Byte) (s : State) : (loadImage bytes s).2.pc = s.pc := by
  obtain ⟨m, e, -⟩ := loadImage_eq bytes s
  rw [e]

theorem loadImage_memRead_image {bytes : List Byte} (s : State) {k : Nat} (h : bytes.length ≤ 65280)
    (hk : k < bytes.length) : (loadImage bytes s).2.memRead (BitVec.ofNat 16 (0x0100 + k)) = bytes[k] := by
  rw [loadImage_of_le s h]
  exact (State.placeBytes_read bytes s 0x0100 (by omega)).1 k hk

theorem loadImage_memRead_outside {bytes : List Byte} (s : State) {addr : Word} (h : bytes.length ≤ 65280)
    (ha : addr.toNat < 0x0100 ∨ 0x0100 + bytes.length ≤ addr.toNat) :
    (loadImage bytes s).2.memRead addr = s.memRead addr := by
  rw [loadImage_of_le s h]
  exact (State.placeBytes_read bytes s 0x0100 (by omega)).2 addr ha

/-- Placing bytes reads of the state its memory only, so it commutes with the reset. -/
theorem State.placeBytes_resetCore (s : State) (addr : Word) (bytes : List Byte) :
    s.resetCore.placeBytes addr bytes = (s.placeBytes addr bytes).resetCore := by
  have hmem : (s.resetCore.placeBytes addr bytes).mem = (s.placeBytes addr bytes).mem :=
    State.placeBytes_mem_congr bytes _ _ addr rfl
  calc s.resetCore.placeBytes addr bytes
      = { s.resetCore with mem := (s.resetCore.placeBytes addr bytes).mem } := State.placeBytes_eq _ addr bytes
    _ = { s.resetCore with mem := (s.placeBytes addr bytes).mem } := by rw [hmem]
    _ = (s.placeBytes addr bytes).resetCore := congrArg State.resetCore (State.placeBytes_eq s addr bytes).symm

theorem loadImage_resetCore (bytes : List Byte) (s : State) :
    (loadImage bytes s.resetCore).2 = (loadImage bytes s).2.resetCore := by
  obtain h | h := Nat.lt_or_ge 65280 bytes.length
  · rw [loadImage_of_lt _ h, loadImage_of_lt _ h]
  · rw [loadImage_of_le _ h, loadImage_of_le _ h]
    exact State.placeBytes_resetCore s 0x0100 bytes

end Sys2Proof.Machine
end

section
/-! The statements of 70_reset_and_hazards.md, settled. -/

namespace Sys2Proof.Proofs

open Sys2Proof.Machine

/-- Settles O59: an accepted image is placed byte by byte and a refused one is not, by what `loadImage` does in each
case. -/
theorem loadImageCopiesOrRefuses : Obligations.LoadImageCopiesOrRefuses := by
  refine fun bytes s => ⟨fun h => ⟨?_, ?_, ?_, loadImage_frame bytes s⟩, loadImage_of_lt s⟩
  · rw [loadImage_of_le s h]
  · exact fun _ hk => loadImage_memRead_image s h hk
  · exact fun _ ha => loadImage_memRead_outside s h ha

/-- Settles O60: loading commutes with the reset and keeps pc, so the first fetch reads the image at `IMAGE_BASE`. -/
theorem bootOrderDoesNotMatter : Obligations.BootOrderDoesNotMatter := by
  intro bytes s
  have hpc : (loadImage bytes s.resetCore).2.pc = 0x0100 := loadImage_pc bytes s.resetCore
  refine ⟨loadImage_resetCore bytes s, hpc, fun hne hlen => ?_⟩
  rw [fetch8, hpc]
  exact loadImage_memRead_image s.resetCore hlen hne

/-- Settles O6: an empty memory reads as zero everywhere, and reset passes memory and the width on. -/
theorem powerOnState : Obligations.PowerOnState :=
  ⟨fun _ _ => rfl, fun _ => rfl, fun _ => rfl, rfl⟩

end Sys2Proof.Proofs
end
